-- ==== Sys2Proof/Word.lean ====
section
/-! DEFINITION. The wire's byte, and the fixed-length record table that every block of the part keeps its records in. -/

namespace Sys2Proof

/-- One character of the coach link or of the station line (R181, R116). -/
abbrev Byte := BitVec 8

/-- A table of exactly `n` records, numbered from 0. -/
structure Table (α : Type) (n : Nat) where
  rows : List α
  size : rows.length = n
deriving DecidableEq, Repr

/-- The table whose every record is `a`. -/
def Table.fill {α : Type} (n : Nat) (a : α) : Table α n := ⟨List.replicate n a, List.length_replicate⟩

/-- Record `i`, or `d` where the table has no record `i`. -/
def Table.get {α : Type} {n : Nat} (t : Table α n) (d : α) (i : Nat) : α := t.rows.getD i d

/-- The table with record `i` replaced (unchanged where there is no record `i`). -/
def Table.set {α : Type} {n : Nat} (t : Table α n) (i : Nat) (a : α) : Table α n :=
  ⟨t.rows.set i a, by simp [t.size]⟩

/-- Every record put through `f`. -/
def Table.map {α β : Type} {n : Nat} (t : Table α n) (f : α → β) : Table β n :=
  ⟨t.rows.map f, by simp [t.size]⟩

/-- `f` over a list with the positions counted up from `k`. -/
def mapFrom {α β : Type} (f : Nat → α → β) : Nat → List α → List β
  | _, [] => []
  | k, a :: as => f k a :: mapFrom f (k + 1) as

theorem length_mapFrom {α β : Type} (f : Nat → α → β) (k : Nat) (l : List α) :
    (mapFrom f k l).length = l.length := by
  induction l generalizing k with
  | nil => rfl
  | cons a as ih => simp [mapFrom, ih]

/-- Every record put through `f` with its number. -/
def Table.mapIdx {α β : Type} {n : Nat} (t : Table α n) (f : Nat → α → β) : Table β n :=
  ⟨mapFrom f 0 t.rows, by simp [length_mapFrom, t.size]⟩

/-- Record `i` of a table whose records are numbered from 1 (zones, door groups, logical inputs). -/
def Table.get1 {α : Type} {n : Nat} (t : Table α n) (d : α) : Nat → α
  | 0 => d
  | i + 1 => t.get d i

/-- The table with record `i`, numbered from 1, replaced. -/
def Table.set1 {α : Type} {n : Nat} (t : Table α n) (i : Nat) (a : α) : Table α n :=
  match i with
  | 0 => t
  | i + 1 => t.set i a

/-- The numbers of the records that satisfy `p`, ascending. -/
def indicesFrom {α : Type} (p : α → Bool) : Nat → List α → List Nat
  | _, [] => []
  | k, a :: as => if p a then k :: indicesFrom p (k + 1) as else indicesFrom p (k + 1) as

/-- The numbers of the records of `t` that satisfy `p`, ascending from 0. -/
def Table.indices {α : Type} {n : Nat} (t : Table α n) (p : α → Bool) : List Nat := indicesFrom p 0 t.rows

/-- `x` held within `lo..hi` (00_scope.md 4.1: clamped). -/
def clampInt (lo hi x : Int) : Int := if x < lo then lo else if hi < x then hi else x

/-- A counter that stops at `top`. -/
def countUp (top n : Nat) : Nat := if n < top then n + 1 else top

/-- The quotient of `a` by `b` rounded up. -/
def divUp (a b : Nat) : Nat := (a + (b - 1)) / b

end Sys2Proof
end

