-- ==== Sys2Proof/Machine/Records.lean ====
section
/-! DEFINITION. The records of the part's eight blocks, as plain data, with the factory contents each chapter gives. -/

namespace Sys2Proof.Machine

/-- The part mode (R166). -/
inductive PartMode where
  | standby | run | windDown | fallback
deriving DecidableEq, Repr

/-- Whether the part is held in reset, in start-up, or operating in one of the four part modes (R170, R175). -/
inductive Phase where
  | held | startUp | operating
deriving DecidableEq, Repr

/-- How the part last came out of start-up (R166). -/
inductive StartKind where
  | powerOn | restart
deriving DecidableEq, Repr

/-- A zone's mode (chapter 1, section 1.1). -/
inductive ZoneMode where
  | off | vent | heat | cool | auto
deriving DecidableEq, Repr

/-- A zone's hold state (section 1.4). -/
inductive HoldState where
  | normal | doorHold | inputHold | inputDecay
deriving DecidableEq, Repr

/-- A point named by its station index and its point number (00_scope.md 4.2). -/
structure PointRef where
  station : Nat
  number : Nat
deriving DecidableEq, Repr

/-- The definition part of a zone record; the factory contents are the defaults (section 1.1). -/
structure ZoneDef where
  doorGroup : Option Nat := none
  panel : Option PointRef := none
  initialSetpoint : Int := 210
  initialMode : ZoneMode := .off
  kp : Nat := 20
  ki : Nat := 4
  deadband : Nat := 5
  rateLimit : Nat := 100
  ventFloor : Nat := 300
  nudgeLimit : Nat := 10
deriving DecidableEq, Repr

/-- A zone record; the defaults are the undefined factory contents (section 1.1). Timers are in milliseconds. -/
structure Zone where
  defined : Bool := false
  defn : ZoneDef := {}
  commandedSetpoint : Int := 210
  commandedMode : ZoneMode := .off
  effectiveSetpoint : Int := 210
  effectiveMode : ZoneMode := .off
  nudge : Int := 0
  inputValue : Int := 0
  integral : Int := 0
  demand : Int := 0
  hold : HoldState := .normal
  holdTimer : Option Nat := none
deriving DecidableEq, Repr

/-- A door group record (section 5.1); the defaults are its values at power-on (R103). -/
structure DoorGroup where
  isOpen : Bool := false
  limitTimer : Option Nat := none
  limitExpired : Bool := false
deriving DecidableEq, Repr

inductive DriveKind where
  | switch | pwm
deriving DecidableEq, Repr

inductive Direction where
  | heat | cool | air
deriving DecidableEq, Repr

inductive FailAction where
  | pass | block
deriving DecidableEq, Repr

/-- The eight states of a channel (section 2.5). -/
inductive ChannelState where
  | idle | waiting | starting | running | stopping | lockout | faulted | latched
deriving DecidableEq, Repr

/-- The definition part of a channel record; the defaults are the factory contents (section 2.1). -/
structure ChannelDef where
  kind : DriveKind := .switch
  direction : Direction := .air
  served : List Nat := []
  tOn : Nat := 1
  tOff : Nat := 0
  lmin : Nat := 100
  rated : Nat := 0
  surge : Nat := 0
  startTime : Nat := 0
  minOn : Nat := 0
  minOff : Nat := 0
  afterRun : Nat := 0
  afterRunCurrent : Nat := 0
  restartAllowed : Bool := false
  prerequisite : Option Nat := none
  priority : Nat := 7
  group : Nat := 0
  ambientLow : Option Int := none
  ambientHigh : Option Int := none
  failAction : FailAction := .pass
  exercise : Bool := false
deriving DecidableEq, Repr

/-- A channel record; the defaults are the undefined factory contents (section 2.1). `sense` is the fault-sense
input as last seen, true for ASSERTED. `fresh` is the model's own: no sweep has evaluated the ambient inhibit since the
channel's definition, power-on or RESTART (R38; log 21). -/
structure Channel where
  defined : Bool := false
  defn : ChannelDef := {}
  state : ChannelState := .idle
  timer : Option Nat := none
  minOnExpired : Bool := false
  cleanRun : Option Nat := none
  own : Bool := false
  drawn : Bool := false
  prompt : Bool := false
  exercise : Bool := false
  combined : Bool := false
  inhibit : Bool := false
  fresh : Bool := true
  driving : Nat := 0
  target : Nat := 0
  applied : Nat := 0
  faults : Nat := 0
  sense : Bool := false
deriving DecidableEq, Repr

/-- The ambient status (R37). -/
inductive AmbientStatus where
  | valid | held | expired
deriving DecidableEq, Repr

/-- An exercise record (section 8.1). `runTime` is the run timer's value in milliseconds and `running` whether it
counts; `hourTime` counts toward the next idle hour. -/
structure ExerciseRecord where
  bound : Option Nat := none
  idleHours : Nat := 0
  hourTime : Nat := 0
  due : Bool := false
  retry : Option Nat := none
  runTime : Nat := 0
  running : Bool := false
deriving DecidableEq, Repr

/-- What one zone hands to the channel controller at a completed computation event (R14). -/
structure ZoneDemand where
  demand : Int := 0
  mode : ZoneMode := .off
deriving DecidableEq, Repr

/-- The channel controller's tables (section 2.1, 8.1). `updates` are the zone updates handed over and not yet taken,
oldest first (R14). -/
structure ChannelCtl where
  channels : Table Channel 32 := Table.fill 32 {}
  grantOrder : List Nat := []
  ambientValue : Int := 0
  ambientStatus : AmbientStatus := .expired
  ambientTimer : Option Nat := none
  exercise : Table ExerciseRecord 2 := Table.fill 2 {}
  checkpointTime : Nat := 0
  updates : List (Table ZoneDemand 12) := []
deriving DecidableEq, Repr

/-- The definition part of a share group; the defaults are the factory contents (section 4.1). -/
structure GroupDef where
  peak : Nat := 4000
  divisor : Nat := 1
  burst : Nat := 4
deriving DecidableEq, Repr

/-- A share-group record (section 4.1). -/
structure ShareGroup where
  defn : GroupDef := {}
  credit : Int := 16000
  creditRefusals : Nat := 0
  peakRefusals : Nat := 0
deriving DecidableEq, Repr

/-- The definition part of a prompt table entry (section 5.4). -/
structure PromptDef where
  channel : Nat
  doorGroup : Nat
  runOn : Nat
deriving DecidableEq, Repr

/-- A prompt table entry, empty or defined (section 5.4). -/
structure PromptEntry where
  defn : Option PromptDef := none
  runOnTimer : Option Nat := none
deriving DecidableEq, Repr

/-- Where the supply values in force came from (section 3.1). -/
inductive SupplySource where
  | supply | safe
deriving DecidableEq, Repr

/-- The allocator's state (section 3.1); the defaults are its values at power-on with the default part settings (R57). -/
structure Allocator where
  ceiling : Nat := 800
  threshold : Nat := 4
  source : SupplySource := .safe
  stalenessTimer : Option Nat := none
  slotTimer : Option Nat := none
  rotaLength : Nat := 0
  rota : Table (Option Nat) 64 := Table.fill 64 none
  rotaPosition : Nat := 0
  firstSlot : Bool := true
  cursors : Table Nat 8 := Table.fill 8 0
  displacementsLeft : Nat := 0
  displacementRefused : Nat := 0
  lastGrants : Nat := 0
  lastReleases : Nat := 0
  lastDisplacements : Nat := 0
  groups : Table ShareGroup 8 := Table.fill 8 {}
  prompts : Table PromptEntry 4 := Table.fill 4 {}
deriving DecidableEq, Repr

inductive PointKind where
  | temp | nudge
deriving DecidableEq, Repr

/-- The quality of a point (section 6.2). -/
inductive Quality where
  | never | good | missing | outOfRange
deriving DecidableEq, Repr

/-- A point record of the sample table (section 6.2). -/
structure Point where
  kind : PointKind
  value : Int := 0
  quality : Quality := .never
  badCount : Nat := 0
  goodCount : Nat := 0
deriving DecidableEq, Repr

inductive WritePolicy where
  | none | everySweep | onChange
deriving DecidableEq, Repr

/-- The outcome of the last poll of a kind (section 6.2). -/
inductive PollOutcome where
  | none | replied | noReply | checkFail
deriving DecidableEq, Repr

/-- The definition part of a station record; the defaults are the factory contents (section 6.2). -/
structure StationDef where
  address : Nat := 1
  enabled : Bool := false
  kinds : List PointKind := []
  policy : WritePolicy := .none
  panelZone : Option Nat := none
deriving DecidableEq, Repr

/-- A station record with its points in the sample table (section 6.2). -/
structure Station where
  defined : Bool := false
  defn : StationDef := {}
  present : Bool := true
  missCount : Nat := 0
  writePending : Bool := true
  changedInFlight : Bool := false
  lastRead : PollOutcome := .none
  lastWrite : PollOutcome := .none
  writeFailures : Nat := 0
  points : List Point := []
deriving DecidableEq, Repr

inductive SweepKind where
  | periodic | onRequest
deriving DecidableEq, Repr

/-- The sweep figures (R129). -/
structure SweepFigures where
  kind : Option SweepKind := none
  readPolled : Nat := 0
  replied : Nat := 0
  writes : Nat := 0
  writesReplied : Nat := 0
deriving DecidableEq, Repr

/-- What an outstanding poll carries: a READ-POLL, or a WRITE-POLL with its setpoint and mode (section 6.1). -/
inductive PollKind where
  | read
  | write (setpoint : Int) (mode : ZoneMode)
deriving DecidableEq, Repr

/-- The outstanding poll (R116, R117): the station it is made to, the address and number of points it was made with
(log 25), whether it is the second attempt, the reply window, and whether a STATION-DEF has disowned it (R131). -/
structure Poll where
  station : Nat
  kind : PollKind
  address : Nat
  points : Nat
  second : Bool := false
  window : Nat := 20
  disowned : Bool := false
deriving DecidableEq, Repr

/-- How far a sweep in flight has come (R122, R129): polling, handed to the input selector, or handed on to the zone
controller and the channel controller, with which of the two have taken it. -/
inductive SweepStage where
  | polling
  | selector
  | handedOn (zoneTaken ambientTaken : Bool)
deriving DecidableEq, Repr

/-- A sweep in flight (section 6.3); `tag` is the tag of the SWEEP-NOW that waits for it (R130). -/
structure Sweep where
  kind : SweepKind
  tag : Option Nat := none
  stage : SweepStage := .polling
  last : Option Nat := none
  poll : Option Poll := none
  figures : SweepFigures := {}
deriving DecidableEq, Repr

/-- The station line controller's state (chapter 6). -/
structure StationLine where
  stations : Table Station 16 := Table.fill 16 {}
  sweepTimer : Option Nat := none
  inFlight : Option Sweep := none
  overruns : Nat := 0
  lastSweep : SweepFigures := {}
deriving DecidableEq, Repr

inductive InputState where
  | onPrimary | substituted | invalid
deriving DecidableEq, Repr

/-- The source of a logical input (section 7.1). -/
inductive InputSource where
  | primary | alternate1 | alternate2
  | pool (index : Nat)
  | none
deriving DecidableEq, Repr

/-- The definition part of a logical input: its primary and its alternates in order (section 7.1). -/
structure InputDef where
  primary : Option PointRef := none
  alternates : List PointRef := []
deriving DecidableEq, Repr

/-- A logical input; the defaults are the factory contents (section 7.1). -/
structure LogicalInput where
  defn : InputDef := {}
  state : InputState := .onPrimary
  source : InputSource := .primary
  value : Int := 0
  holding : Bool := true
  seenGood : Bool := false
  badCount : Nat := 0
  verifyCount : Nat := 0
deriving DecidableEq, Repr

/-- The input selector's tables (section 7.1, 7.2). Inputs are numbered 1 to 13; 13 is OUT. `handed` holds the inputs as the three
passes of the last sweep left them, which is how its completion reaches the zone controller and the channel controller (R152). -/
structure Selector where
  inputs : Table LogicalInput 13 := Table.fill 13 {}
  handed : Table LogicalInput 13 := Table.fill 13 {}
  pool : List PointRef := []
  freeList : List Nat := []
  candidates : List Nat := []
deriving DecidableEq, Repr

/-- The line rate of the coach link, bit/s (R181). -/
inductive LineRate where
  | r38400 | r115200
deriving DecidableEq, Repr

/-- The part settings; the defaults are those of section 11.2. -/
structure Settings where
  safeCeiling : Nat := 800
  safeThreshold : Nat := 4
  preemptionWidth : Nat := 1
  fallbackSetpoint : Int := 210
  linkSilence : Nat := 10
  autoStart : Bool := false
  keepOnRestart : Bool := false
  doorHoldLimit : Nat := 300
  agreementTolerance : Nat := 15
  exerciseInterval : Nat := 168
  exerciseDuration : Nat := 600
  lineRate : LineRate := .r115200
deriving DecidableEq, Repr

/-- The validation reasons, in the order R197 numbers them. -/
inductive Reason where
  | noZone | noChannel | panelPoint | servedZone | thresholds | ambientWindow | prerequisite | prerequisiteChain
  | exerciseCount | peakBelowStart | noRefill | rotaEntry | promptChannel | duplicateAddress | panelZone | pointTotal
  | noInput | primaryPoint | alternatePoint | alternateRepeat | poolPoint | poolRepeat | poolOverlap
deriving DecidableEq, Repr

/-- A validation failure: record kind (the request's kind code), index and reason (R167). -/
structure ConfigFault where
  kind : Nat
  index : Nat
  reason : Reason
deriving DecidableEq, Repr

/-- The last validation (R166). -/
inductive Validation where
  | none
  | passed
  | failed (fault : ConfigFault)
deriving DecidableEq, Repr

/-- The mode controller's state (R166). `fallbackTime` is in milliseconds. -/
structure ModeCtl where
  mode : PartMode := .standby
  startKind : StartKind := .powerOn
  lastValidation : Validation := .none
  fallbackFlag : Bool := false
  fallbackTime : Nat := 0
  supplyStale : Bool := false
deriving DecidableEq, Repr

/-- The working configuration as the configuration area holds it (chapter 11). -/
structure StoredConfig where
  settings : Settings := {}
  zones : Table (Option ZoneDef) 12 := Table.fill 12 none
  channels : Table (Option ChannelDef) 32 := Table.fill 32 none
  groups : Table GroupDef 8 := Table.fill 8 {}
  prompts : Table (Option PromptDef) 4 := Table.fill 4 none
  stations : Table (Option StationDef) 16 := Table.fill 16 none
  inputs : Table InputDef 13 := Table.fill 13 {}
  pool : List PointRef := []
  rotaLength : Nat := 0
  rota : Table (Option Nat) 64 := Table.fill 64 none
deriving DecidableEq, Repr

/-- One exercise record as the counter area holds it. -/
structure StoredCounter where
  bound : Option Nat := none
  idleHours : Nat := 0
deriving DecidableEq, Repr

/-- The counter area's contents (chapter 11): exercise records 0 and 1. -/
structure StoredCounters where
  first : StoredCounter := {}
  second : StoredCounter := {}
deriving DecidableEq, Repr

inductive LoadStatus where
  | loaded | defaulted | kept
deriving DecidableEq, Repr

inductive WriteStatus where
  | none | good | writeFailed
deriving DecidableEq, Repr

/-- The write to the store in flight (R194, R195). -/
inductive StoreWrite where
  | idle
  | configuration
  | counter
  | checkpoint (counters : StoredCounters)
deriving DecidableEq, Repr

/-- A SAVE that has been taken and not yet answered: its tag and its snapshot (R194). -/
structure SaveOp where
  tag : Nat
  config : StoredConfig
  counters : StoredCounters
deriving DecidableEq, Repr

/-- The settings store. An area is `none` while its checksum is bad and holds its contents while it is good (log 12). -/
structure Store where
  configArea : Option StoredConfig := none
  counterArea : Option StoredCounters := none
  configLoad : LoadStatus := .defaulted
  counterLoad : LoadStatus := .defaulted
  configWrite : WriteStatus := .none
  counterWrite : WriteStatus := .none
  write : StoreWrite := .idle
  save : Option SaveOp := none
  keptCheckpoint : Option StoredCounters := none
deriving DecidableEq, Repr

/-- A received frame as the request queue holds it (section 10.1). -/
structure Frame where
  kind : Nat
  tag : Nat
  body : List Byte
deriving DecidableEq, Repr

/-- The store areas, as STORE-FAULT names them (R197). -/
inductive StoreArea where
  | configuration | counter
deriving DecidableEq, Repr

inductive StoreFaultCause where
  | badChecksum | writeFailed
deriving DecidableEq, Repr

inductive PostponedCause where
  | release | fault
deriving DecidableEq, Repr

inductive LeftCause where
  | frame | queuedRequest
deriving DecidableEq, Repr

/-- The notices with their contents, in the order of the notice table of R187. -/
inductive Notice where
  | channelFaulted (channel : Nat) (state : ChannelState) (count : Nat)
  | channelLatched (channel : Nat)
  | inputSubstituted (input : Nat) (source : InputSource) (point : PointRef) (value : Int)
  | inputInvalid (input : Nat) (value : Int)
  | inputReinstated (input : Nat) (value : Int)
  | fallbackEntered (ceiling threshold : Nat)
  | fallbackLeft (seconds : Nat) (cause : LeftCause)
  | exerciseDone (channel idleHours : Nat)
  | exercisePostponed (channel : Nat) (cause : PostponedCause) (seconds : Nat)
  | windDownDone (lockout faulted latched : Nat)
  | storeFault (area : StoreArea) (cause : StoreFaultCause)
deriving DecidableEq, Repr

/-- The result codes, in the order R197 numbers them. -/
inductive ResultCode where
  | done | clamped | accepted | busy | wrongMode | badField | noSuchItem | unknownKind | malformed | configFault
deriving DecidableEq, Repr

/-- The level status of CHANNEL-REPORT (R56). -/
inductive LevelStatus where
  | none | full | levelLimited
deriving DecidableEq, Repr

/-- ZONE-REPORT (R25). -/
structure ZoneReport where
  zone : Nat
  commandedSetpoint : Int
  commandedMode : ZoneMode
  effectiveSetpoint : Int
  effectiveMode : ZoneMode
  nudge : Int
  inputValue : Int
  integral : Int
  demand : Int
  hold : HoldState
  holdSeconds : Nat
deriving DecidableEq, Repr

/-- CHANNEL-REPORT (R56). -/
structure ChannelReport where
  channel : Nat
  state : ChannelState
  timerSeconds : Nat
  minOnExpired : Bool
  own : Bool
  drawn : Bool
  prompt : Bool
  exercise : Bool
  combined : Bool
  inhibit : Bool
  ambientStatus : AmbientStatus
  ambientValue : Int
  driving : Nat
  target : Nat
  applied : Nat
  level : LevelStatus
  counted : Nat
  faults : Nat
  sense : Bool
  position : Option Nat
deriving DecidableEq, Repr

/-- ALLOC-REPORT (R86). -/
structure AllocReport where
  ceiling : Nat
  threshold : Nat
  source : SupplySource
  supplyStale : Bool
  stalenessSeconds : Nat
  preemptionWidth : Nat
  total : Nat
  waiting : Nat
  starting : Nat
  running : Nat
  stopping : Nat
  rotaLength : Nat
  rotaPosition : Nat
  cursors : List Nat
  displacementRefused : Nat
  grants : Nat
  releases : Nat
  displacements : Nat
deriving DecidableEq, Repr

/-- GROUP-REPORT (R101). -/
structure GroupReport where
  group : Nat
  peak : Nat
  divisor : Nat
  burst : Nat
  refill : Nat
  capacity : Nat
  credit : Int
  load : Nat
  starting : Nat
  running : Nat
  stopping : Nat
  creditRefusals : Nat
  peakRefusals : Nat
deriving DecidableEq, Repr

/-- INPUT-REPORT (R156). -/
structure InputReport where
  input : Nat
  evaluated : Bool
  primary : Option PointRef
  alternates : List PointRef
  state : InputState
  source : InputSource
  sourcePoint : Option PointRef
  value : Int
  holding : Bool
  seenGood : Bool
  badCount : Nat
  verifyCount : Nat
  position : Option Nat
  candidates : List Nat
  poolLength : Nat
  freeList : List Nat
  lentTo : List (Option Nat)
deriving DecidableEq, Repr

/-- STATION-REPORT (R135). -/
structure StationReport where
  station : Nat
  address : Nat
  enabled : Bool
  present : Bool
  missCount : Nat
  writePending : Bool
  changedInFlight : Bool
  lastRead : PollOutcome
  lastWrite : PollOutcome
  writeFailures : Nat
  points : List Point
  inFlight : Option SweepKind
  overruns : Nat
  lastSweep : SweepFigures
deriving DecidableEq, Repr

/-- One door group in STATUS (R103). -/
structure DoorStatus where
  isOpen : Bool
  limitExpired : Bool
  limitSeconds : Nat
deriving DecidableEq, Repr

/-- One exercise record in STATUS (R165). -/
structure ExerciseStatus where
  bound : Option Nat
  idleHours : Nat
  due : Bool
  retryMinutes : Nat
  runSeconds : Nat
deriving DecidableEq, Repr

/-- The link status counts (R190). -/
structure LinkCounts where
  framesReceived : Nat := 0
  length : Nat := 0
  abandoned : Nat := 0
  check : Nat := 0
  queueFull : Nat := 0
deriving DecidableEq, Repr

/-- STATUS (R188). -/
structure StatusReport where
  mode : PartMode
  startKind : StartKind
  lastValidation : Validation
  fallbackSeconds : Nat
  fallbackFlag : Bool
  supplyStale : Bool
  noticesLost : Bool
  counts : LinkCounts
  lineRate : LineRate
  requests : Nat
  notices : Nat
  silenceSeconds : Nat
  configLoad : LoadStatus
  counterLoad : LoadStatus
  configWrite : WriteStatus
  counterWrite : WriteStatus
  doors : List DoorStatus
  exercise : List ExerciseStatus
deriving DecidableEq, Repr

/-- A record of the working configuration as READ-CONFIG returns it (R189). -/
inductive ConfigRecord where
  | settings (settings : Settings)
  | zone (zone : Nat) (defn : ZoneDef)
  | channel (channel : Nat) (defn : ChannelDef)
  | group (group : Nat) (defn : GroupDef)
  | prompt (entry : Nat) (defn : PromptDef)
  | station (station : Nat) (defn : StationDef)
  | input (input : Nat) (defn : InputDef)
  | pool (points : List PointRef)
deriving DecidableEq, Repr

/-- What follows the result code in a reply (R185, R197). -/
inductive Content where
  | nothing
  | mode (mode : PartMode)
  | field (index : Nat)
  | configFault (fault : ConfigFault)
  | supply (ceiling threshold : Nat)
  | door (group : Nat) (isOpen : Bool) (granted notGranted : Nat)
  | stopping (count : Nat)
  | sweep (figures : SweepFigures)
  | rota (length position : Nat) (firstSlot : Bool) (entries : List (Option Nat))
  | zone (report : ZoneReport)
  | channel (report : ChannelReport)
  | alloc (report : AllocReport)
  | group (report : GroupReport)
  | input (report : InputReport)
  | station (report : StationReport)
  | status (report : StatusReport)
  | config (record : ConfigRecord)
deriving DecidableEq, Repr

/-- A reply: the kind of the request it answers, its tag, the result code and what follows (R185). -/
structure Reply where
  kind : Nat
  tag : Nat
  code : ResultCode
  content : Content
deriving DecidableEq, Repr

/-- The transmitter of the coach link (R186). -/
inductive Transmitter where
  | idle
  | reply (reply : Reply)
  | notice (notice : Notice)
deriving DecidableEq, Repr

/-- The link port's state (chapter 10). -/
structure LinkPort where
  rxBuffer : List Byte := []
  requests : List Frame := []
  notices : List Notice := []
  noticesLost : Bool := false
  counts : LinkCounts := {}
  silenceTimer : Option Nat := none
  lineRate : LineRate := .r115200
  ready : Option Reply := none
  tx : Transmitter := .idle
deriving DecidableEq, Repr

end Sys2Proof.Machine
end

