-- ==== Sys2Proof/Machine/Flags.lean ====
section
/-! DEFINITION. What the records say by computation: counted currents, drive lines, derived group values, the demand arithmetic,
ambient and input conditions. No function here changes any state. -/

namespace Sys2Proof.Machine

/-! ## Times -/

/-- A time in seconds, in milliseconds. -/
def seconds (n : Nat) : Nat := n * 1000

/-- The zone hold timer (R16). -/
def holdTime : Nat := seconds 60

/-- The fault backoff (R47). -/
def faultBackoff : Nat := seconds 30

/-- The clean run (R49). -/
def cleanRunTime : Nat := seconds 60

/-- The ambient hold (R37). -/
def ambientHoldTime : Nat := seconds 600

/-- The supply staleness time (R58, R60). -/
def stalenessTime : Nat := seconds 5

/-- The slot period (R66). -/
def slotPeriod : Nat := 250

/-- The sweep period (R121). -/
def sweepPeriod : Nat := seconds 1

/-- One exercise hour (R158). -/
def hourTime : Nat := seconds 3600

/-- The exercise retry time, 12 h (R162). -/
def retryTime : Nat := 12 * hourTime

/-- The checkpoint period, 24 h (R163). -/
def checkpointPeriod : Nat := 24 * hourTime

/-- A timer's remaining time in whole seconds, rounded up, 0 when stopped. -/
def secondsLeft : Option Nat → Nat
  | none => 0
  | some t => divUp t 1000

/-- A timer's remaining time in whole minutes, rounded up, 0 when stopped (R165). -/
def minutesLeft : Option Nat → Nat
  | none => 0
  | some t => divUp t 60000

/-- A timer set to `n` seconds, or stopped when `n` is 0. -/
def timerOf (n : Nat) : Option Nat := if n = 0 then none else some (seconds n)

/-! ## Channels -/

/-- The level a PWM channel starts at; a SWITCH channel has none, carried as 0 (R33, R34). -/
def Channel.lminLevel (x : Channel) : Nat :=
  match x.defn.kind with
  | .switch => 0
  | .pwm => x.defn.lmin

/-- The running current at a level: the rated current of a SWITCH channel, and the rated current in proportion, rounded
up, of a PWM channel (R35, R68). -/
def ChannelDef.currentAt (d : ChannelDef) (level : Nat) : Nat :=
  match d.kind with
  | .switch => d.rated
  | .pwm => divUp (d.rated * level) 100

/-- The running current at Lmin (R68). -/
def ChannelDef.currentAtLmin (d : ChannelDef) : Nat := d.currentAt d.lmin

/-- A channel's figure as a STARTING channel (R68, R89). -/
def ChannelDef.startFigure (d : ChannelDef) : Nat := max d.surge d.currentAtLmin

/-- The counted current (R35). An undefined channel counts 0. -/
def Channel.counted (x : Channel) : Nat :=
  if x.defined then
    match x.state with
    | .starting => x.defn.surge
    | .running => x.defn.currentAt x.applied
    | .stopping => x.defn.afterRunCurrent
    | .idle => 0
    | .waiting => 0
    | .lockout => 0
    | .faulted => 0
    | .latched => 0
  else 0

/-- What a drive line carries (R36). -/
inductive Drive where
  | off
  | on
  | level (percent : Nat)
deriving DecidableEq, Repr

/-- The drive line of a channel in service (R36). -/
def Channel.drive (x : Channel) : Drive :=
  if x.defined then
    match x.state with
    | .starting => (match x.defn.kind with | .switch => .on | .pwm => .level x.defn.lmin)
    | .running => (match x.defn.kind with | .switch => .on | .pwm => .level x.applied)
    | .stopping => (match x.defn.kind with | .switch => .on | .pwm => .level x.defn.lmin)
    | .idle => .off
    | .waiting => .off
    | .lockout => .off
    | .faulted => .off
    | .latched => .off
  else .off

/-- STARTING or RUNNING. -/
def ChannelState.inService : ChannelState → Bool
  | .starting => true
  | .running => true
  | .idle => false
  | .waiting => false
  | .stopping => false
  | .lockout => false
  | .faulted => false
  | .latched => false

/-- STARTING, RUNNING or STOPPING. -/
def ChannelState.drawing : ChannelState → Bool
  | .starting => true
  | .running => true
  | .stopping => true
  | .idle => false
  | .waiting => false
  | .lockout => false
  | .faulted => false
  | .latched => false

/-- Defined and STARTING or RUNNING. -/
def Channel.active (x : Channel) : Bool := x.defined && x.state.inService

/-- The level status of CHANNEL-REPORT (R34, R56). -/
def Channel.level (x : Channel) : LevelStatus :=
  if x.state = .running then
    if x.defn.kind = .pwm ∧ x.applied < x.target then .levelLimited else .full
  else .none

/-- The PWM target of a channel at driving value `v`; a SWITCH channel has none, carried as 0 (R33). -/
def ChannelDef.targetAt (d : ChannelDef) (v : Nat) : Nat :=
  match d.kind with
  | .switch => 0
  | .pwm =>
    if 1000 ≤ v then 100
    else if d.tOn ≤ v then min 100 (d.lmin + divUp ((v - d.tOn) * (100 - d.lmin)) (1000 - d.tOn))
    else d.lmin

/-- The target before any update: Lmin for a PWM channel (R26, R53, R54). -/
def ChannelDef.targetAtRest (d : ChannelDef) : Nat :=
  match d.kind with
  | .switch => 0
  | .pwm => d.lmin

/-- The own request with hysteresis (R30). -/
def ChannelDef.ownAt (d : ChannelDef) (v : Nat) (before : Bool) : Bool :=
  if d.tOn ≤ v then true else if v ≤ d.tOff then false else before

/-- Whether a channel has an ambient bound (R38). -/
def ChannelDef.bounded (d : ChannelDef) : Bool := d.ambientLow.isSome || d.ambientHigh.isSome

/-- The ambient value lies outside the window (R38). -/
def ChannelDef.outside (d : ChannelDef) (v : Int) : Bool :=
  (match d.ambientLow with | none => false | some lo => decide (v < lo)) ||
  (match d.ambientHigh with | none => false | some hi => decide (hi < v))

/-- The ambient value lies inside the window by the return margin of 10 (R38). -/
def ChannelDef.wellInside (d : ChannelDef) (v : Int) : Bool :=
  (match d.ambientLow with | none => true | some lo => decide (lo + 10 ≤ v)) &&
  (match d.ambientHigh with | none => true | some hi => decide (v ≤ hi - 10))

/-- The ambient inhibit by R38: by the fail action while the status is EXPIRED; by the window in a first evaluation;
with the return margin otherwise. A channel with neither bound is not inhibited. -/
def ChannelDef.inhibitAt (d : ChannelDef) (status : AmbientStatus) (v : Int) (first before : Bool) : Bool :=
  if d.bounded then
    match status with
    | .expired => decide (d.failAction = .block)
    | .valid => if d.outside v then true else if first then false else if d.wellInside v then false else before
    | .held => if d.outside v then true else if first then false else if d.wellInside v then false else before
  else false

/-! ## Share groups (R87) -/

def GroupDef.refill (d : GroupDef) : Nat := d.peak / d.divisor

def GroupDef.capacity (d : GroupDef) : Nat := d.peak * d.burst

/-- The class of a priority at preemption width `w` (R77). -/
def classOf (w priority : Nat) : Nat := priority / 2 ^ (3 - w)

/-! ## The demand computation -/

/-- The bounds of an effective mode (R10). -/
def ZoneMode.lo : ZoneMode → Int
  | .auto => -1000
  | .heat => 0
  | .cool => -1000
  | .vent => 0
  | .off => 0

def ZoneMode.hi : ZoneMode → Int
  | .auto => 1000
  | .heat => 1000
  | .cool => 0
  | .vent => 0
  | .off => 0

/-- The modes in which the integral is computed (R11, R13). -/
def ZoneMode.integrates : ZoneMode → Bool
  | .auto => true
  | .heat => true
  | .cool => true
  | .vent => false
  | .off => false

/-- The nudge term (R5). -/
def nudgeTerm (nudge : Int) (limit : Nat) : Int := clampInt (-(limit : Int)) limit (nudge * 5)

/-- The effective error (R9). -/
def effectiveError (setpoint input : Int) (deadband : Nat) : Int :=
  let e := clampInt (-200) 200 (setpoint - input)
  if e.natAbs ≤ deadband then 0 else if 0 < e then e - deadband else e + deadband

/-- The integral after R11 and R13: set to 0 at a change of effective mode, 0 in VENT and OFF, and otherwise the
candidate unless the freeze of step 3 holds it. -/
def nextIntegral (mode : ZoneMode) (changed : Bool) (ki : Nat) (p eEff before : Int) : Int :=
  let i := if changed then 0 else before
  if mode.integrates then
    let candidate := clampInt (-64000) 64000 (i + ki * eEff)
    let d := p + candidate.tdiv 64
    if (mode.hi < d ∧ 0 < eEff) ∨ (d < mode.lo ∧ eEff < 0) then i else candidate
  else 0

/-- The raw demand (R11 step 4; P in VENT and OFF, R13). -/
def rawDemand (mode : ZoneMode) (p integral : Int) : Int := if mode.integrates then p + integral.tdiv 64 else p

/-- The new demand from the previous one (R12). -/
def nextDemand (mode : ZoneMode) (rate : Nat) (raw before : Int) : Int :=
  let target := clampInt mode.lo mode.hi raw
  let step := clampInt (-(rate : Int)) rate (target - before)
  clampInt mode.lo mode.hi (before + step)

/-- One step of decay toward 0 (R19). -/
def decayed (d : Int) : Int := if 10 < d then d - 10 else if d < -10 then d + 10 else 0

/-! ## Logical inputs -/

/-- An input counts as invalid for its zone, or for the ambient value (R16, R37). -/
def LogicalInput.countsInvalid (x : LogicalInput) : Bool :=
  decide (x.state = .invalid) || (decide (x.state = .onPrimary) && x.holding && !x.seenGood)

/-- An input is defined when its primary is present (section 7.1). -/
def LogicalInput.defined (x : LogicalInput) : Bool := x.defn.primary.isSome

end Sys2Proof.Machine
end

