-- ==== Sys2Proof/Config.lean ====
section
/-! DEFINITION. The free values: what the spec leaves open after an event from which the part goes on. They have no body, so no
proof can see them. -/

namespace Sys2Proof.Config

open Sys2Proof.Machine

/-- DESIGN CHOICE, safe (log 13). What the configuration area holds after the `n`-th write whose read-back did not match
(R194): the rule names the write item and the notice, not the contents nor the checksum. -/
opaque failedConfigurationWrite (n : Nat) : Option StoredConfig

/-- DESIGN CHOICE, safe (log 13). The same for the counter area (R194, R195). -/
opaque failedCounterWrite (n : Nat) : Option StoredCounters

/-- DESIGN CHOICE, safe (log 16). The point-number byte of a point that a reply carries as absent: R197 fixes its
station index byte, FF, and not this one. -/
opaque absentPointNumber : Byte

end Sys2Proof.Config
end

