-- ==== Sys2Proof/Syntax.lean ====
section
/-! DEFINITION. The commands: one constructor of Instr per row of spec/opcode_table.json. Requests carry their frame's tag and the
fields of their body (chapter 11, section 11.6) as numbers, before any range check. -/

namespace Sys2Proof

/-- The body of PART-SETTINGS (section 11.2), field by field. -/
structure SettingsBody where
  safeCeiling : Nat
  safeThreshold : Nat
  preemptionWidth : Nat
  fallbackSetpoint : Int
  linkSilence : Nat
  autoStart : Nat
  keepOnRestart : Nat
  doorHoldLimit : Nat
  agreementTolerance : Nat
  exerciseInterval : Nat
  exerciseDuration : Nat
  lineRate : Nat
deriving DecidableEq, Repr

/-- The tuning part of ZONE-DEF (section 1.1). -/
structure TuningBody where
  kp : Nat
  ki : Nat
  deadband : Nat
  rateLimit : Nat
  ventFloor : Nat
  nudgeLimit : Nat
deriving DecidableEq, Repr

/-- The body of ZONE-DEF without its remove flag set. `removeFlag` is the flag's byte, 0 in a definition; `panelStation` is
255 when the panel point is absent (R197). -/
structure ZoneBody where
  zone : Nat
  removeFlag : Nat
  doorGroup : Option Nat
  panelStation : Nat
  panelNumber : Nat
  initialSetpoint : Int
  initialMode : Nat
  tuning : Option TuningBody
deriving DecidableEq, Repr

/-- The body of CHANNEL-DEF (section 11.6). -/
structure ChannelBody where
  channel : Nat
  removeFlag : Nat
  kind : Nat
  direction : Nat
  served : List Nat
  tOn : Nat
  tOff : Nat
  lmin : Nat
  rated : Nat
  surge : Nat
  startTime : Nat
  minOn : Nat
  minOff : Nat
  afterRun : Nat
  afterRunCurrent : Nat
  restart : Nat
  prerequisite : Option Nat
  priority : Nat
  group : Nat
  ambientLow : Option Int
  ambientHigh : Option Int
  failAction : Nat
  exercise : Nat
deriving DecidableEq, Repr

/-- The body of STATION-DEF (section 11.6). -/
structure StationBody where
  station : Nat
  removeFlag : Nat
  address : Nat
  enabled : Nat
  kinds : List Nat
  policy : Nat
  panelZone : Option Nat
deriving DecidableEq, Repr

/-- A point in a request body: a station index byte and a point number byte. -/
structure PointBody where
  station : Nat
  number : Nat
deriving DecidableEq, Repr

/-- The commands of the part. -/
inductive Instr where
  -- configuration requests
  | partSettings (tag : Nat) (body : SettingsBody)
  | zoneDef (tag : Nat) (body : ZoneBody)
  | zoneDefRemove (tag zone : Nat)
  | channelDef (tag : Nat) (body : ChannelBody)
  | channelDefRemove (tag channel : Nat)
  | groupDef (tag group peak divisor burst : Nat)
  | rotaLoad (tag length start : Nat) (entries : List (Option Nat))
  | promptDef (tag entry removeFlag channel doorGroup runOn : Nat)
  | promptDefRemove (tag entry : Nat)
  | stationDef (tag : Nat) (body : StationBody)
  | stationDefRemove (tag station : Nat)
  | inputDef (tag input removeFlag : Nat) (primary : PointBody) (alternates : List PointBody)
  | inputDefRemove (tag input : Nat)
  | poolDef (tag : Nat) (points : List PointBody)
  -- live requests
  | zoneSetpoint (tag zone : Nat) (setpoint : Int) (mode : Nat)
  | supply (tag ceiling threshold : Nat)
  | door (tag group state : Nat)
  | clearFault (tag channel : Nat)
  | sweepNow (tag : Nat)
  -- mode requests and SAVE
  | start (tag : Nat)
  | stop (tag : Nat)
  | restart (tag : Nat)
  | save (tag : Nat)
  -- queries
  | status (tag : Nat)
  | zoneReport (tag zone : Nat)
  | channelReport (tag channel : Nat)
  | allocReport (tag : Nat)
  | groupReport (tag group : Nat)
  | inputReport (tag input : Nat)
  | stationReport (tag station : Nat)
  | readConfig (tag kind index : Nat)
  | rotaRead (tag start count : Nat)
  | unknownKind (tag kind : Nat)
  -- events of the link port
  | frameLengthImpossible (length : Nat)
  | frameAbandoned (next : Byte)
  | frameComplete (kind tag : Byte) (body : List Byte) (check : BitVec 16)
  | replySent
  | noticeSent
  -- start-up and supply
  | restartReinitialisation
  | powerOn
  | undervoltage
  -- the station line
  | sweepTimerExpiry
  | pollReplyWindowExpiry
  | pollReplyGapExpiry (reply : List Byte)
  | pollReplyEnd (reply : List Byte)
  -- a sweep's completion
  | selectorSweepCompletion
  | zoneSweepCompletion
  | ambientSweepCompletion
  | zoneDemandUpdate
  -- timers of zones, doors, prompt entries and the ambient hold
  | holdTimerExpiry (zone : Nat)
  | doorLimitTimerExpiry (group : Nat)
  | runOnTimerExpiry (entry : Nat)
  | ambientHoldTimerExpiry
  -- the channels
  | startTimerExpiry (channel : Nat)
  | minimumOnExpiry (channel : Nat)
  | afterRunExpiry (channel : Nat)
  | minimumOffExpiry (channel : Nat)
  | faultBackoffExpiry (channel : Nat)
  | cleanRunExpiry (channel : Nat)
  | faultSenseReport (channel : Nat) (asserted : Bool)
  -- the allocator and the mode controller
  | slotDecision
  | supplyStalenessExpiry
  | linkSilenceExpiry
  -- exercise runs
  | exerciseHour (record : Nat)
  | exerciseRetryExpiry (record : Nat)
  | exerciseSatisfied (record : Nat)
  | checkpoint
  -- the settings store
  | configurationWriteEnd (matched : Bool)
  | counterWriteEnd (matched : Bool)
  | checkpointWriteEnd (matched : Bool)
deriving DecidableEq, Repr

end Sys2Proof
end

