-- ==== Sys2Proof/WellFormed.lean ====
section
/-! DEFINITION. Which commands a frame, a line or a pin can carry: every field within the bytes R197 gives it, lists within a frame's
56 body bytes, record numbers within their tables. A request field outside its RANGE is well formed; the part answers it
BAD-FIELD. -/

namespace Sys2Proof

/-- An unsigned field of one byte (R197). -/
def fitsByte (n : Nat) : Bool := decide (n < 256)

/-- An unsigned field of two bytes (R197). -/
def fitsWord (n : Nat) : Bool := decide (n < 65536)

/-- A two's-complement field of two bytes (R197). -/
def fitsSigned (i : Int) : Bool := decide (-32768 ≤ i) && decide (i < 32768)

/-- A one-byte field that may be absent, carried as FF (R197). -/
def fitsOptByte : Option Nat → Bool
  | none => true
  | some n => decide (n < 255)

/-- A two-byte field that may be absent, carried as 8000 hexadecimal (R197). -/
def fitsOptSigned : Option Int → Bool
  | none => true
  | some i => decide (-32768 < i) && decide (i < 32768)

def PointBody.fits (p : PointBody) : Bool := fitsByte p.station && fitsByte p.number

def SettingsBody.fits (b : SettingsBody) : Bool :=
  fitsWord b.safeCeiling && fitsByte b.safeThreshold && fitsByte b.preemptionWidth && fitsSigned b.fallbackSetpoint &&
  fitsByte b.linkSilence && fitsByte b.autoStart && fitsByte b.keepOnRestart && fitsWord b.doorHoldLimit &&
  fitsByte b.agreementTolerance && fitsWord b.exerciseInterval && fitsWord b.exerciseDuration && fitsByte b.lineRate

def TuningBody.fits (t : TuningBody) : Bool :=
  fitsByte t.kp && fitsByte t.ki && fitsByte t.deadband && fitsWord t.rateLimit && fitsWord t.ventFloor &&
  fitsByte t.nudgeLimit

/-- The remove flag of a definition is not 1: a body whose flag is 1 is the removal (R1, R2; log 15). -/
def definitionFlag (flag : Nat) : Bool := fitsByte flag && decide (flag ≠ 1)

def ZoneBody.fits (b : ZoneBody) : Bool :=
  fitsByte b.zone && definitionFlag b.removeFlag && fitsOptByte b.doorGroup && fitsByte b.panelStation &&
  fitsByte b.panelNumber && fitsSigned b.initialSetpoint && fitsByte b.initialMode &&
  (match b.tuning with | none => true | some t => t.fits)

def ChannelBody.fits (b : ChannelBody) : Bool :=
  fitsByte b.channel && definitionFlag b.removeFlag && fitsByte b.kind && fitsByte b.direction &&
  b.served.all fitsByte && decide (b.served.length ≤ 23) && fitsWord b.tOn && fitsWord b.tOff && fitsByte b.lmin &&
  fitsWord b.rated && fitsWord b.surge && fitsByte b.startTime && fitsWord b.minOn && fitsWord b.minOff &&
  fitsWord b.afterRun && fitsWord b.afterRunCurrent && fitsByte b.restart && fitsOptByte b.prerequisite &&
  fitsByte b.priority && fitsByte b.group && fitsOptSigned b.ambientLow && fitsOptSigned b.ambientHigh &&
  fitsByte b.failAction && fitsByte b.exercise

def StationBody.fits (b : StationBody) : Bool :=
  fitsByte b.station && definitionFlag b.removeFlag && fitsByte b.address && fitsByte b.enabled &&
  b.kinds.all fitsByte && decide (b.kinds.length ≤ 49) && fitsByte b.policy && fitsOptByte b.panelZone

/-- The request kinds of section 11.5. -/
def requestKinds : List Nat :=
  [0x01, 0x02, 0x03, 0x04, 0x05, 0x06, 0x07, 0x08, 0x09, 0x10, 0x11, 0x12, 0x13, 0x14, 0x18, 0x19, 0x1A, 0x1B,
   0x20, 0x21, 0x22, 0x23, 0x24, 0x25, 0x26, 0x27, 0x28]

/-- The well-formed commands. -/
def Instr.wellFormed : Instr → Bool
  | .partSettings tag b => fitsByte tag && b.fits
  | .zoneDef tag b => fitsByte tag && b.fits
  | .zoneDefRemove tag zone => fitsByte tag && fitsByte zone
  | .channelDef tag b => fitsByte tag && b.fits
  | .channelDefRemove tag channel => fitsByte tag && fitsByte channel
  | .groupDef tag group peak divisor burst =>
      fitsByte tag && fitsByte group && fitsWord peak && fitsByte divisor && fitsWord burst
  | .rotaLoad tag length first entries =>
      fitsByte tag && fitsByte length && fitsByte first && entries.all fitsOptByte && decide (entries.length ≤ 53)
  | .promptDef tag entry flag channel doorGroup runOn =>
      fitsByte tag && fitsByte entry && definitionFlag flag && fitsByte channel && fitsByte doorGroup && fitsByte runOn
  | .promptDefRemove tag entry => fitsByte tag && fitsByte entry
  | .stationDef tag b => fitsByte tag && b.fits
  | .stationDefRemove tag station => fitsByte tag && fitsByte station
  | .inputDef tag input flag primary alternates =>
      fitsByte tag && fitsByte input && definitionFlag flag && primary.fits && alternates.all PointBody.fits &&
      decide (alternates.length ≤ 25)
  | .inputDefRemove tag input => fitsByte tag && fitsByte input
  | .poolDef tag points => fitsByte tag && points.all PointBody.fits && decide (points.length ≤ 27)
  | .zoneSetpoint tag zone setpoint mode => fitsByte tag && fitsByte zone && fitsSigned setpoint && fitsByte mode
  | .supply tag ceiling threshold => fitsByte tag && fitsWord ceiling && fitsByte threshold
  | .door tag group state => fitsByte tag && fitsByte group && fitsByte state
  | .clearFault tag channel => fitsByte tag && fitsByte channel
  | .sweepNow tag => fitsByte tag
  | .start tag => fitsByte tag
  | .stop tag => fitsByte tag
  | .restart tag => fitsByte tag
  | .save tag => fitsByte tag
  | .status tag => fitsByte tag
  | .zoneReport tag zone => fitsByte tag && fitsByte zone
  | .channelReport tag channel => fitsByte tag && fitsByte channel
  | .allocReport tag => fitsByte tag
  | .groupReport tag group => fitsByte tag && fitsByte group
  | .inputReport tag input => fitsByte tag && fitsByte input
  | .stationReport tag station => fitsByte tag && fitsByte station
  | .readConfig tag kind index => fitsByte tag && fitsByte kind && fitsByte index
  | .rotaRead tag first count => fitsByte tag && fitsByte first && fitsByte count
  | .unknownKind tag kind => fitsByte tag && fitsByte kind && !requestKinds.contains kind
  | .frameLengthImpossible length => fitsByte length && (decide (length < 2) || decide (58 < length))
  | .frameAbandoned _ => true
  | .frameComplete _ _ body _ => decide (body.length ≤ 56)
  | .replySent => true
  | .noticeSent => true
  | .restartReinitialisation => true
  | .powerOn => true
  | .undervoltage => true
  | .sweepTimerExpiry => true
  | .pollReplyWindowExpiry => true
  | .pollReplyGapExpiry reply => decide (0 < reply.length)
  | .pollReplyEnd reply => decide (0 < reply.length)
  | .selectorSweepCompletion => true
  | .zoneSweepCompletion => true
  | .ambientSweepCompletion => true
  | .zoneDemandUpdate => true
  | .holdTimerExpiry zone => decide (1 ≤ zone) && decide (zone ≤ 12)
  | .doorLimitTimerExpiry group => decide (1 ≤ group) && decide (group ≤ 4)
  | .runOnTimerExpiry entry => decide (entry < 4)
  | .ambientHoldTimerExpiry => true
  | .startTimerExpiry channel => decide (channel < 32)
  | .minimumOnExpiry channel => decide (channel < 32)
  | .afterRunExpiry channel => decide (channel < 32)
  | .minimumOffExpiry channel => decide (channel < 32)
  | .faultBackoffExpiry channel => decide (channel < 32)
  | .cleanRunExpiry channel => decide (channel < 32)
  | .faultSenseReport channel _ => decide (channel < 32)
  | .slotDecision => true
  | .supplyStalenessExpiry => true
  | .linkSilenceExpiry => true
  | .exerciseHour record => decide (record < 2)
  | .exerciseRetryExpiry record => decide (record < 2)
  | .exerciseSatisfied record => decide (record < 2)
  | .checkpoint => true
  | .configurationWriteEnd _ => true
  | .counterWriteEnd _ => true
  | .checkpointWriteEnd _ => true

end Sys2Proof
end

