-- ==== Sys2Proof/Decode.lean ====
section
/-! DEFINITION. The codec of the coach link (R181 to R185, R197): a frame's kind and body read as a command, a command written as
a frame, and the check. The table of commands gives no row any bits, so the host's decodeTableWord answers none. -/

namespace Sys2Proof

/-- No row of spec/opcode_table.json carries bits: no word spells a command. -/
def decodeTableWord (_nbits _w : Nat) : Option Instr := none

/-- One step of the check: one bit shifted out, most significant first, generator 1021 hexadecimal (R197). -/
def crcShift (c : Nat) : Nat :=
  if c < 32768 then 2 * c else Nat.xor (2 * c - 65536) 0x1021

/-- The check after one more byte (R197). -/
def crcByte (c : Nat) (b : Byte) : Nat :=
  crcShift (crcShift (crcShift (crcShift (crcShift (crcShift (crcShift (crcShift (Nat.xor c (b.toNat * 256)))))))))

/-- The 16-bit check over a list of bytes, initial value FFFF hexadecimal, no final inversion (R197). -/
def crc (bytes : List Byte) : BitVec 16 := BitVec.ofNat 16 (bytes.foldl crcByte 0xFFFF)

/-- A one-byte unsigned field. -/
def u8 (n : Nat) : List Byte := [BitVec.ofNat 8 n]

/-- A two-byte unsigned field, high byte first (R197). -/
def u16 (n : Nat) : List Byte := [BitVec.ofNat 8 (n / 256), BitVec.ofNat 8 n]

/-- A four-byte unsigned field, high byte first (R197). -/
def u32 (n : Nat) : List Byte := u16 (n / 65536) ++ u16 n

/-- A two-byte two's-complement field (R197). -/
def i16 (i : Int) : List Byte := u16 (i % 65536).toNat

/-- A four-byte two's-complement field (R197). -/
def i32 (i : Int) : List Byte := u32 (i % 4294967296).toNat

/-- A one-byte field, FF when absent (R197). -/
def opt8 : Option Nat → List Byte
  | none => [0xFF]
  | some n => u8 n

/-- A two-byte signed field, 8000 hexadecimal when absent (R197). -/
def opt16 : Option Int → List Byte
  | none => u16 0x8000
  | some i => i16 i

/-- A yes/no or set/clear item: one byte, 0 or 1 (R197). -/
def flag8 (b : Bool) : List Byte := if b then u8 1 else u8 0

/-- The number two bytes carry, high byte first. -/
def word (hi lo : Byte) : Nat := hi.toNat * 256 + lo.toNat

/-- The two's-complement number two bytes carry. -/
def signed (hi lo : Byte) : Int :=
  if word hi lo < 32768 then (word hi lo : Int) else (word hi lo : Int) - 65536

/-- A one-byte field that may be absent. -/
def optByte (b : Byte) : Option Nat := if b.toNat = 255 then none else some b.toNat

/-- A two-byte signed field that may be absent. -/
def optSigned (hi lo : Byte) : Option Int := if word hi lo = 0x8000 then none else some (signed hi lo)

/-- The points in a list of two-byte entries; `none` when a byte is left over. -/
def readPoints : List Byte → Option (List PointBody)
  | [] => some []
  | [_] => none
  | s :: n :: rest =>
    match readPoints rest with
    | none => none
    | some ps => some (⟨s.toNat, n.toNat⟩ :: ps)

/-- What the link port's check of a frame's kind and body length comes to (R185). -/
inductive Reading where
  | unknown
  | malformed
  | request (i : Instr)
deriving DecidableEq, Repr

/-- MALFORMED where the body has not the length its kind calls for. -/
def Reading.ofOption : Option Instr → Reading
  | none => .malformed
  | some i => .request i

/-- PART-SETTINGS: 17 bytes. -/
def readSettings (tag : Nat) : List Byte → Option Instr
  | [a1, a0, b, c, d1, d0, e, f, g, h1, h0, i, j1, j0, k1, k0, l] =>
    some (.partSettings tag
      { safeCeiling := word a1 a0, safeThreshold := b.toNat, preemptionWidth := c.toNat, fallbackSetpoint := signed d1 d0,
        linkSilence := e.toNat, autoStart := f.toNat, keepOnRestart := g.toNat, doorHoldLimit := word h1 h0,
        agreementTolerance := i.toNat, exerciseInterval := word j1 j0, exerciseDuration := word k1 k0,
        lineRate := l.toNat })
  | _ => none

/-- The tuning part of ZONE-DEF, 8 bytes or absent. -/
def readTuning : List Byte → Option (Option TuningBody)
  | [] => some none
  | [a, b, c, d1, d0, e1, e0, f] =>
    some (some { kp := a.toNat, ki := b.toNat, deadband := c.toNat, rateLimit := word d1 d0, ventFloor := word e1 e0,
                 nudgeLimit := f.toNat })
  | _ => none

/-- ZONE-DEF: 8 or 16 bytes; with the remove flag set, the removal (R2). -/
def readZone (tag : Nat) : List Byte → Option Instr
  | z :: r :: g :: ps :: pn :: s1 :: s0 :: m :: rest =>
    match readTuning rest with
    | none => none
    | some tuning =>
      if r.toNat = 1 then some (.zoneDefRemove tag z.toNat)
      else some (.zoneDef tag
        { zone := z.toNat, removeFlag := r.toNat, doorGroup := optByte g, panelStation := ps.toNat,
          panelNumber := pn.toNat, initialSetpoint := signed s1 s0, initialMode := m.toNat, tuning := tuning })
  | _ => none

/-- The fields of CHANNEL-DEF after the served zones, 28 bytes. -/
def readChannelTail (tag : Nat) (c r k d : Byte) (served : List Nat) : List Byte → Option Instr
  | [a1, a0, b1, b0, lm, e1, e0, f1, f0, st, g1, g0, h1, h0, i1, i0, j1, j0, rs, pq, pr, gr, l1, l0, u1, u0, fa, ex] =>
    if r.toNat = 1 then some (.channelDefRemove tag c.toNat)
    else some (.channelDef tag
      { channel := c.toNat, removeFlag := r.toNat, kind := k.toNat, direction := d.toNat, served := served,
        tOn := word a1 a0, tOff := word b1 b0, lmin := lm.toNat, rated := word e1 e0, surge := word f1 f0,
        startTime := st.toNat, minOn := word g1 g0, minOff := word h1 h0, afterRun := word i1 i0,
        afterRunCurrent := word j1 j0, restart := rs.toNat, prerequisite := optByte pq, priority := pr.toNat,
        group := gr.toNat, ambientLow := optSigned l1 l0, ambientHigh := optSigned u1 u0, failAction := fa.toNat,
        exercise := ex.toNat })
  | _ => none

/-- CHANNEL-DEF: 33 bytes and the count of served zones. -/
def readChannel (tag : Nat) : List Byte → Option Instr
  | c :: r :: k :: d :: n :: rest =>
    if n.toNat ≤ rest.length then
      readChannelTail tag c r k d ((rest.take n.toNat).map BitVec.toNat) (rest.drop n.toNat)
    else none
  | _ => none

/-- ROTA-LOAD: 3 bytes and the count of entries. -/
def readRota (tag : Nat) : List Byte → Option Instr
  | l :: s :: n :: rest => if rest.length = n.toNat then some (.rotaLoad tag l.toNat s.toNat (rest.map optByte)) else none
  | _ => none

/-- The panel fields of STATION-DEF after the point kinds. -/
def readStationTail (tag : Nat) (i r a e : Byte) (kinds : List Nat) : List Byte → Option Instr
  | [p, z] =>
    if r.toNat = 1 then some (.stationDefRemove tag i.toNat)
    else some (.stationDef tag
      { station := i.toNat, removeFlag := r.toNat, address := a.toNat, enabled := e.toNat, kinds := kinds,
        policy := p.toNat, panelZone := optByte z })
  | _ => none

/-- STATION-DEF: 7 bytes and the count of points. -/
def readStation (tag : Nat) : List Byte → Option Instr
  | i :: r :: a :: e :: n :: rest =>
    if n.toNat ≤ rest.length then
      readStationTail tag i r a e ((rest.take n.toNat).map BitVec.toNat) (rest.drop n.toNat)
    else none
  | _ => none

/-- INPUT-DEF: 5 bytes and two for each alternate. -/
def readInput (tag : Nat) : List Byte → Option Instr
  | i :: r :: s :: p :: n :: rest =>
    match readPoints rest with
    | none => none
    | some alts =>
      if alts.length = n.toNat then
        if r.toNat = 1 then some (.inputDefRemove tag i.toNat)
        else some (.inputDef tag i.toNat r.toNat ⟨s.toNat, p.toNat⟩ alts)
      else none
  | _ => none

/-- POOL-DEF: one byte and two for each point. -/
def readPool (tag : Nat) : List Byte → Option Instr
  | n :: rest =>
    match readPoints rest with
    | none => none
    | some points => if points.length = n.toNat then some (.poolDef tag points) else none
  | _ => none

/-- A request whose body is empty. -/
def readEmpty (i : Instr) : List Byte → Option Instr
  | [] => some i
  | _ => none

/-- A request whose body is one byte. -/
def readOne (f : Nat → Instr) : List Byte → Option Instr
  | [a] => some (f a.toNat)
  | _ => none

/-- A request whose body is two one-byte fields. -/
def readTwo (f : Nat → Nat → Instr) : List Byte → Option Instr
  | [a, b] => some (f a.toNat b.toNat)
  | _ => none

/-- GROUP-DEF: 6 bytes. -/
def readGroup (tag : Nat) : List Byte → Option Instr
  | [g, p1, p0, n, b1, b0] => some (.groupDef tag g.toNat (word p1 p0) n.toNat (word b1 b0))
  | _ => none

/-- PROMPT-DEF: 5 bytes; with the remove flag set, the removal (R110). -/
def readPrompt (tag : Nat) : List Byte → Option Instr
  | [e, r, c, g, o] =>
    if r.toNat = 1 then some (.promptDefRemove tag e.toNat)
    else some (.promptDef tag e.toNat r.toNat c.toNat g.toNat o.toNat)
  | _ => none

/-- ZONE-SETPOINT: 4 bytes. -/
def readSetpoint (tag : Nat) : List Byte → Option Instr
  | [z, s1, s0, m] => some (.zoneSetpoint tag z.toNat (signed s1 s0) m.toNat)
  | _ => none

/-- SUPPLY: 3 bytes. -/
def readSupply (tag : Nat) : List Byte → Option Instr
  | [c1, c0, t] => some (.supply tag (word c1 c0) t.toNat)
  | _ => none

/-- The request a frame carries, or why it carries none (R185): the kind first, then the body length. -/
def decodeRequest (kind tag : Nat) (body : List Byte) : Reading :=
  if kind = 0x01 then .ofOption (readSettings tag body)
  else if kind = 0x02 then .ofOption (readZone tag body)
  else if kind = 0x03 then .ofOption (readChannel tag body)
  else if kind = 0x04 then .ofOption (readGroup tag body)
  else if kind = 0x05 then .ofOption (readRota tag body)
  else if kind = 0x06 then .ofOption (readPrompt tag body)
  else if kind = 0x07 then .ofOption (readStation tag body)
  else if kind = 0x08 then .ofOption (readInput tag body)
  else if kind = 0x09 then .ofOption (readPool tag body)
  else if kind = 0x10 then .ofOption (readSetpoint tag body)
  else if kind = 0x11 then .ofOption (readSupply tag body)
  else if kind = 0x12 then .ofOption (readTwo (.door tag) body)
  else if kind = 0x13 then .ofOption (readOne (.clearFault tag) body)
  else if kind = 0x14 then .ofOption (readEmpty (.sweepNow tag) body)
  else if kind = 0x18 then .ofOption (readEmpty (.start tag) body)
  else if kind = 0x19 then .ofOption (readEmpty (.stop tag) body)
  else if kind = 0x1A then .ofOption (readEmpty (.restart tag) body)
  else if kind = 0x1B then .ofOption (readEmpty (.save tag) body)
  else if kind = 0x20 then .ofOption (readEmpty (.status tag) body)
  else if kind = 0x21 then .ofOption (readOne (.zoneReport tag) body)
  else if kind = 0x22 then .ofOption (readOne (.channelReport tag) body)
  else if kind = 0x23 then .ofOption (readEmpty (.allocReport tag) body)
  else if kind = 0x24 then .ofOption (readOne (.groupReport tag) body)
  else if kind = 0x25 then .ofOption (readOne (.inputReport tag) body)
  else if kind = 0x26 then .ofOption (readOne (.stationReport tag) body)
  else if kind = 0x27 then .ofOption (readTwo (.readConfig tag) body)
  else if kind = 0x28 then .ofOption (readTwo (.rotaRead tag) body)
  else .unknown

/-- A list field: its count byte and its entries (R197). -/
def countByte {α : Type} (l : List α) : List Byte := u8 l.length

def PointBody.bytes (p : PointBody) : List Byte := u8 p.station ++ u8 p.number

def SettingsBody.bytes (b : SettingsBody) : List Byte :=
  u16 b.safeCeiling ++ u8 b.safeThreshold ++ u8 b.preemptionWidth ++ i16 b.fallbackSetpoint ++ u8 b.linkSilence ++
  u8 b.autoStart ++ u8 b.keepOnRestart ++ u16 b.doorHoldLimit ++ u8 b.agreementTolerance ++ u16 b.exerciseInterval ++
  u16 b.exerciseDuration ++ u8 b.lineRate

def TuningBody.bytes (t : TuningBody) : List Byte :=
  u8 t.kp ++ u8 t.ki ++ u8 t.deadband ++ u16 t.rateLimit ++ u16 t.ventFloor ++ u8 t.nudgeLimit

def ZoneBody.bytes (b : ZoneBody) : List Byte :=
  u8 b.zone ++ u8 b.removeFlag ++ opt8 b.doorGroup ++ u8 b.panelStation ++ u8 b.panelNumber ++ i16 b.initialSetpoint ++
  u8 b.initialMode ++ (match b.tuning with | none => [] | some t => t.bytes)

def ChannelBody.bytes (b : ChannelBody) : List Byte :=
  u8 b.channel ++ u8 b.removeFlag ++ u8 b.kind ++ u8 b.direction ++ countByte b.served ++ b.served.flatMap u8 ++
  u16 b.tOn ++ u16 b.tOff ++ u8 b.lmin ++ u16 b.rated ++ u16 b.surge ++ u8 b.startTime ++ u16 b.minOn ++ u16 b.minOff ++
  u16 b.afterRun ++ u16 b.afterRunCurrent ++ u8 b.restart ++ opt8 b.prerequisite ++ u8 b.priority ++ u8 b.group ++
  opt16 b.ambientLow ++ opt16 b.ambientHigh ++ u8 b.failAction ++ u8 b.exercise

def StationBody.bytes (b : StationBody) : List Byte :=
  u8 b.station ++ u8 b.removeFlag ++ u8 b.address ++ u8 b.enabled ++ countByte b.kinds ++ b.kinds.flatMap u8 ++
  u8 b.policy ++ opt8 b.panelZone

/-- The kind code, tag and body a request is sent with (sections 11.5 and 11.6); a removal is sent with its other fields 0,
which the part ignores. `none` for a command that is no request. -/
def encodeRequest : Instr → Option (Nat × Nat × List Byte)
  | .partSettings tag b => some (0x01, tag, b.bytes)
  | .zoneDef tag b => some (0x02, tag, b.bytes)
  | .zoneDefRemove tag zone => some (0x02, tag, u8 zone ++ u8 1 ++ List.replicate 6 0)
  | .channelDef tag b => some (0x03, tag, b.bytes)
  | .channelDefRemove tag channel => some (0x03, tag, u8 channel ++ u8 1 ++ List.replicate 31 0)
  | .groupDef tag group peak divisor burst => some (0x04, tag, u8 group ++ u16 peak ++ u8 divisor ++ u16 burst)
  | .rotaLoad tag length first entries =>
      some (0x05, tag, u8 length ++ u8 first ++ countByte entries ++ entries.flatMap opt8)
  | .promptDef tag entry flag channel doorGroup runOn =>
      some (0x06, tag, u8 entry ++ u8 flag ++ u8 channel ++ u8 doorGroup ++ u8 runOn)
  | .promptDefRemove tag entry => some (0x06, tag, u8 entry ++ u8 1 ++ List.replicate 3 0)
  | .stationDef tag b => some (0x07, tag, b.bytes)
  | .stationDefRemove tag station => some (0x07, tag, u8 station ++ u8 1 ++ List.replicate 5 0)
  | .inputDef tag input flag primary alternates =>
      some (0x08, tag, u8 input ++ u8 flag ++ primary.bytes ++ countByte alternates ++ alternates.flatMap PointBody.bytes)
  | .inputDefRemove tag input => some (0x08, tag, u8 input ++ u8 1 ++ List.replicate 3 0)
  | .poolDef tag points => some (0x09, tag, countByte points ++ points.flatMap PointBody.bytes)
  | .zoneSetpoint tag zone setpoint mode => some (0x10, tag, u8 zone ++ i16 setpoint ++ u8 mode)
  | .supply tag ceiling threshold => some (0x11, tag, u16 ceiling ++ u8 threshold)
  | .door tag group state => some (0x12, tag, u8 group ++ u8 state)
  | .clearFault tag channel => some (0x13, tag, u8 channel)
  | .sweepNow tag => some (0x14, tag, [])
  | .start tag => some (0x18, tag, [])
  | .stop tag => some (0x19, tag, [])
  | .restart tag => some (0x1A, tag, [])
  | .save tag => some (0x1B, tag, [])
  | .status tag => some (0x20, tag, [])
  | .zoneReport tag zone => some (0x21, tag, u8 zone)
  | .channelReport tag channel => some (0x22, tag, u8 channel)
  | .allocReport tag => some (0x23, tag, [])
  | .groupReport tag group => some (0x24, tag, u8 group)
  | .inputReport tag input => some (0x25, tag, u8 input)
  | .stationReport tag station => some (0x26, tag, u8 station)
  | .readConfig tag kind index => some (0x27, tag, u8 kind ++ u8 index)
  | .rotaRead tag first count => some (0x28, tag, u8 first ++ u8 count)
  | .unknownKind tag kind => some (kind, tag, [])
  | .frameLengthImpossible _ => none
  | .frameAbandoned _ => none
  | .frameComplete _ _ _ _ => none
  | .replySent => none
  | .noticeSent => none
  | .restartReinitialisation => none
  | .powerOn => none
  | .undervoltage => none
  | .sweepTimerExpiry => none
  | .pollReplyWindowExpiry => none
  | .pollReplyGapExpiry _ => none
  | .pollReplyEnd _ => none
  | .selectorSweepCompletion => none
  | .zoneSweepCompletion => none
  | .ambientSweepCompletion => none
  | .zoneDemandUpdate => none
  | .holdTimerExpiry _ => none
  | .doorLimitTimerExpiry _ => none
  | .runOnTimerExpiry _ => none
  | .ambientHoldTimerExpiry => none
  | .startTimerExpiry _ => none
  | .minimumOnExpiry _ => none
  | .afterRunExpiry _ => none
  | .minimumOffExpiry _ => none
  | .faultBackoffExpiry _ => none
  | .cleanRunExpiry _ => none
  | .faultSenseReport _ _ => none
  | .slotDecision => none
  | .supplyStalenessExpiry => none
  | .linkSilenceExpiry => none
  | .exerciseHour _ => none
  | .exerciseRetryExpiry _ => none
  | .exerciseSatisfied _ => none
  | .checkpoint => none
  | .configurationWriteEnd _ => none
  | .counterWriteEnd _ => none
  | .checkpointWriteEnd _ => none

/-- A whole frame from its length byte through its last body byte: what the check is taken over (R182, R197). -/
def checkedBytes (kind tag : Byte) (body : List Byte) : List Byte :=
  BitVec.ofNat 8 (body.length + 2) :: kind :: tag :: body

/-- A frame as it stands on the line, from its start byte to its last check character (section 11.5). -/
def frameBytes (kind tag : Byte) (body : List Byte) : List Byte :=
  0xC3 :: checkedBytes kind tag body ++ u16 (crc (checkedBytes kind tag body)).toNat

end Sys2Proof
end

