-- ==== Sys2Proof/Machine/Operands.lean ====
section
/-! DEFINITION. The operand forms: the codes of enumerations (R197), the field checks of every configuration request in the order
its rule gives, and the definitions that checked bodies stand for. -/

namespace Sys2Proof.Machine

/-! ## Enumerations (R197: numbered from 0 in the order the defining table lists them) -/

def zoneModeOf : Nat → Option ZoneMode
  | 0 => some .off
  | 1 => some .vent
  | 2 => some .heat
  | 3 => some .cool
  | 4 => some .auto
  | _ => none

def zoneModeCode : ZoneMode → Nat
  | .off => 0
  | .vent => 1
  | .heat => 2
  | .cool => 3
  | .auto => 4

def driveKindOf : Nat → Option DriveKind
  | 0 => some .switch
  | 1 => some .pwm
  | _ => none

def driveKindCode : DriveKind → Nat
  | .switch => 0
  | .pwm => 1

def directionOf : Nat → Option Direction
  | 0 => some .heat
  | 1 => some .cool
  | 2 => some .air
  | _ => none

def directionCode : Direction → Nat
  | .heat => 0
  | .cool => 1
  | .air => 2

/-- Restart in after-run: ALLOWED 0, NOT-ALLOWED 1. -/
def restartOf : Nat → Option Bool
  | 0 => some true
  | 1 => some false
  | _ => none

def restartCode (allowed : Bool) : Nat := if allowed then 0 else 1

def failActionOf : Nat → Option FailAction
  | 0 => some .pass
  | 1 => some .block
  | _ => none

def failActionCode : FailAction → Nat
  | .pass => 0
  | .block => 1

def pointKindOf : Nat → Option PointKind
  | 0 => some .temp
  | 1 => some .nudge
  | _ => none

def pointKindCode : PointKind → Nat
  | .temp => 0
  | .nudge => 1

def policyOf : Nat → Option WritePolicy
  | 0 => some .none
  | 1 => some .everySweep
  | 2 => some .onChange
  | _ => none

def policyCode : WritePolicy → Nat
  | .none => 0
  | .everySweep => 1
  | .onChange => 2

def lineRateOf : Nat → Option LineRate
  | 0 => some .r38400
  | 1 => some .r115200
  | _ => none

def lineRateCode : LineRate → Nat
  | .r38400 => 0
  | .r115200 => 1

/-- A yes/no item: 0 or 1. -/
def yesNoOf : Nat → Option Bool
  | 0 => some false
  | 1 => some true
  | _ => none

def yesNoCode (b : Bool) : Nat := if b then 1 else 0

/-- A code that names a value. -/
def known {α : Type} (x : Option α) : Bool := x.isSome

/-! ## Ranges -/

def within (lo hi n : Nat) : Bool := decide (lo ≤ n) && decide (n ≤ hi)

def withinInt (lo hi i : Int) : Bool := decide (lo ≤ i) && decide (i ≤ hi)

/-- An optional field, absent or within its range. -/
def optWithin (lo hi : Nat) : Option Nat → Bool
  | none => true
  | some n => within lo hi n

def optWithinInt (lo hi : Int) : Option Int → Bool
  | none => true
  | some i => withinInt lo hi i

/-- A list without a repeated entry. -/
def noRepeat : List Nat → Bool
  | [] => true
  | a :: as => !as.contains a && noRepeat as

/-- A point name a station can have: station index 0..15 and point number 1..6. -/
def pointInRange (station number : Nat) : Bool := decide (station ≤ 15) && within 1 6 number

/-! ## Field checks: the index of a field (section 11.6) with whether it passes, in the order of checking -/

/-- The first field that fails, by its index (R185). -/
def firstBad : List (Nat × Bool) → Option Nat
  | [] => none
  | (i, ok) :: rest => if ok then firstBad rest else some i

/-- PART-SETTINGS (R193, section 11.2). -/
def settingsChecks (b : SettingsBody) : List (Nat × Bool) :=
  [(1, within 0 4000 b.safeCeiling), (2, within 0 8 b.safeThreshold), (3, within 0 3 b.preemptionWidth),
   (4, withinInt 160 300 b.fallbackSetpoint), (5, within 2 60 b.linkSilence), (6, known (yesNoOf b.autoStart)),
   (7, known (yesNoOf b.keepOnRestart)), (8, within 0 1800 b.doorHoldLimit), (9, within 0 50 b.agreementTolerance),
   (10, within 24 336 b.exerciseInterval), (11, within 60 1800 b.exerciseDuration), (12, known (lineRateOf b.lineRate))]

/-- The panel point of a ZONE-DEF: absent, or a point name (R1). -/
def panelOk (b : ZoneBody) : Bool := decide (b.panelStation = 255) || pointInRange b.panelStation b.panelNumber

def tuningChecks : Option TuningBody → List (Nat × Bool)
  | none => []
  | some t =>
    [(7, within 0 100 t.kp), (8, within 0 64 t.ki), (9, within 0 20 t.deadband), (10, within 10 1000 t.rateLimit),
     (11, within 0 1000 t.ventFloor), (12, within 0 20 t.nudgeLimit)]

/-- A remove flag in a definition is 0 (R197: a yes/no item is 0 or 1; log 15). -/
def flagOk (flag : Nat) : Bool := decide (flag = 0)

/-- ZONE-DEF (R1). -/
def zoneChecks (b : ZoneBody) : List (Nat × Bool) :=
  [(1, within 1 12 b.zone), (2, flagOk b.removeFlag), (3, optWithin 1 4 b.doorGroup), (4, panelOk b),
   (5, withinInt 160 300 b.initialSetpoint), (6, known (zoneModeOf b.initialMode))] ++ tuningChecks b.tuning

/-- The served zones of a CHANNEL-DEF: 1 to 12 zone numbers, no number twice (R26). -/
def servedOk (served : List Nat) : Bool := within 1 12 served.length && served.all (within 1 12) && noRepeat served

/-- Lmin is checked for a PWM channel alone (R26). -/
def lminOk (b : ChannelBody) : Bool := !decide (driveKindOf b.kind = some .pwm) || within 10 100 b.lmin

/-- The prerequisite: absent, or another channel (R26). -/
def prerequisiteOk (b : ChannelBody) : Bool :=
  match b.prerequisite with
  | none => true
  | some q => within 0 31 q && !decide (q = b.channel)

/-- CHANNEL-DEF (R26). -/
def channelChecks (b : ChannelBody) : List (Nat × Bool) :=
  [(1, within 0 31 b.channel), (2, flagOk b.removeFlag), (3, known (driveKindOf b.kind)),
   (4, known (directionOf b.direction)), (5, servedOk b.served), (6, within 1 990 b.tOn), (7, within 0 989 b.tOff),
   (8, lminOk b), (9, within 0 600 b.rated), (10, within 0 1200 b.surge), (11, within 0 10 b.startTime),
   (12, within 0 600 b.minOn), (13, within 0 600 b.minOff), (14, within 0 300 b.afterRun),
   (15, within 0 600 b.afterRunCurrent), (16, known (restartOf b.restart)), (17, prerequisiteOk b),
   (18, within 0 7 b.priority), (19, within 0 7 b.group), (20, optWithinInt (-400) 850 b.ambientLow),
   (21, optWithinInt (-400) 850 b.ambientHigh), (22, known (failActionOf b.failAction)),
   (23, known (yesNoOf b.exercise))]

/-- GROUP-DEF (R88). -/
def groupChecks (group peak divisor burst : Nat) : List (Nat × Bool) :=
  [(1, within 0 7 group), (2, within 0 4000 peak), (3, within 1 16 divisor),
   (4, within 4 256 burst && decide (burst % 4 = 0))]

/-- A rota entry: EMPTY or a channel (R82). -/
def rotaEntryOk : Option Nat → Bool := optWithin 0 31

/-- ROTA-LOAD (R83). -/
def rotaChecks (length first : Nat) (entries : List (Option Nat)) : List (Nat × Bool) :=
  [(1, within 0 64 length), (2, within 0 63 first),
   (3, within 0 48 entries.length && decide (first + entries.length ≤ length)), (4, entries.all rotaEntryOk)]

/-- STATION-DEF (R118); `pointTotal` is the number of points of all defined stations with the new list counted, and
its failure is named as the point list field. -/
def stationChecks (b : StationBody) (pointTotal : Nat) : List (Nat × Bool) :=
  [(1, within 0 15 b.station), (2, flagOk b.removeFlag), (3, within 1 30 b.address), (4, known (yesNoOf b.enabled)),
   (5, within 1 6 b.kinds.length && b.kinds.all (fun k => known (pointKindOf k))), (6, known (policyOf b.policy)),
   (7, optWithin 1 12 b.panelZone && (decide (policyOf b.policy = some .none) || b.panelZone.isSome)),
   (5, decide (pointTotal ≤ 64))]

/-- INPUT-DEF (R136). -/
def inputChecks (input flag : Nat) (primary : PointBody) (alternates : List PointBody) : List (Nat × Bool) :=
  [(1, within 1 13 input), (2, flagOk flag), (3, pointInRange primary.station primary.number),
   (4, within 0 2 alternates.length && alternates.all (fun p => pointInRange p.station p.number))]

/-- POOL-DEF (R138). -/
def poolChecks (points : List PointBody) : List (Nat × Bool) :=
  [(1, within 0 4 points.length), (2, points.all (fun p => pointInRange p.station p.number))]

/-- PROMPT-DEF (R109); `elsewhere` says whether another entry names the channel. -/
def promptChecks (entry flag channel doorGroup runOn : Nat) (elsewhere : Bool) : List (Nat × Bool) :=
  [(1, within 0 3 entry), (2, flagOk flag), (3, within 0 31 channel && !elsewhere), (4, within 1 4 doorGroup),
   (5, within 0 120 runOn)]

/-! ## Definitions from checked bodies -/

def PointRef.ofBody (p : PointBody) : PointRef := ⟨p.station, p.number⟩

/-- The part settings a checked PART-SETTINGS carries (R193). -/
def settingsOf (b : SettingsBody) : Settings :=
  { safeCeiling := b.safeCeiling, safeThreshold := b.safeThreshold, preemptionWidth := b.preemptionWidth,
    fallbackSetpoint := b.fallbackSetpoint, linkSilence := b.linkSilence,
    autoStart := (yesNoOf b.autoStart).getD false, keepOnRestart := (yesNoOf b.keepOnRestart).getD false,
    doorHoldLimit := b.doorHoldLimit, agreementTolerance := b.agreementTolerance,
    exerciseInterval := b.exerciseInterval, exerciseDuration := b.exerciseDuration,
    lineRate := (lineRateOf b.lineRate).getD .r115200 }

/-- The zone definition a checked ZONE-DEF carries, with the tuning defaults where the tuning part is absent (R1). -/
def zoneDefOf (b : ZoneBody) : ZoneDef :=
  let base : ZoneDef :=
    { doorGroup := b.doorGroup
      panel := if b.panelStation = 255 then none else some ⟨b.panelStation, b.panelNumber⟩
      initialSetpoint := b.initialSetpoint
      initialMode := (zoneModeOf b.initialMode).getD .off }
  match b.tuning with
  | none => base
  | some t =>
    { base with kp := t.kp, ki := t.ki, deadband := t.deadband, rateLimit := t.rateLimit, ventFloor := t.ventFloor,
                nudgeLimit := t.nudgeLimit }

/-- The channel definition a checked CHANNEL-DEF carries; a SWITCH channel's Lmin is stored as 100 (R26). -/
def channelDefOf (b : ChannelBody) : ChannelDef :=
  let kind := (driveKindOf b.kind).getD .switch
  { kind := kind, direction := (directionOf b.direction).getD .air, served := b.served, tOn := b.tOn, tOff := b.tOff,
    lmin := (match kind with | .switch => 100 | .pwm => b.lmin),
    rated := b.rated, surge := b.surge, startTime := b.startTime, minOn := b.minOn, minOff := b.minOff,
    afterRun := b.afterRun, afterRunCurrent := b.afterRunCurrent, restartAllowed := (restartOf b.restart).getD false,
    prerequisite := b.prerequisite, priority := b.priority, group := b.group, ambientLow := b.ambientLow,
    ambientHigh := b.ambientHigh, failAction := (failActionOf b.failAction).getD .pass,
    exercise := (yesNoOf b.exercise).getD false }

/-- The station definition a checked STATION-DEF carries (R118). -/
def stationDefOf (b : StationBody) : StationDef :=
  { address := b.address, enabled := (yesNoOf b.enabled).getD false, kinds := b.kinds.filterMap pointKindOf,
    policy := (policyOf b.policy).getD .none, panelZone := b.panelZone }

/-! ## The ranges of the record tables, on definitions -/

def Settings.inRange (x : Settings) : Bool :=
  within 0 4000 x.safeCeiling && within 0 8 x.safeThreshold && within 0 3 x.preemptionWidth &&
  withinInt 160 300 x.fallbackSetpoint && within 2 60 x.linkSilence && within 0 1800 x.doorHoldLimit &&
  within 0 50 x.agreementTolerance && within 24 336 x.exerciseInterval && within 60 1800 x.exerciseDuration

def pointRefOk (p : PointRef) : Bool := pointInRange p.station p.number

def ZoneDef.inRange (d : ZoneDef) : Bool :=
  optWithin 1 4 d.doorGroup && (match d.panel with | none => true | some p => pointRefOk p) &&
  withinInt 160 300 d.initialSetpoint && within 0 100 d.kp && within 0 64 d.ki && within 0 20 d.deadband &&
  within 10 1000 d.rateLimit && within 0 1000 d.ventFloor && within 0 20 d.nudgeLimit

/-- The ranges of the channel table, for the record of channel `c`. -/
def ChannelDef.inRange (c : Nat) (d : ChannelDef) : Bool :=
  servedOk d.served && within 1 990 d.tOn && within 0 989 d.tOff && within 10 100 d.lmin && within 0 600 d.rated &&
  within 0 1200 d.surge && within 0 10 d.startTime && within 0 600 d.minOn && within 0 600 d.minOff &&
  within 0 300 d.afterRun && within 0 600 d.afterRunCurrent &&
  (match d.prerequisite with | none => true | some q => within 0 31 q && !decide (q = c)) &&
  within 0 7 d.priority && within 0 7 d.group && optWithinInt (-400) 850 d.ambientLow &&
  optWithinInt (-400) 850 d.ambientHigh

def GroupDef.inRange (d : GroupDef) : Bool :=
  within 0 4000 d.peak && within 1 16 d.divisor && within 4 256 d.burst && decide (d.burst % 4 = 0)

def StationDef.inRange (d : StationDef) : Bool :=
  within 1 30 d.address && within 1 6 d.kinds.length && optWithin 1 12 d.panelZone &&
  (decide (d.policy = .none) || d.panelZone.isSome)

def InputDef.inRange (d : InputDef) : Bool :=
  match d.primary with
  | none => d.alternates.isEmpty
  | some p => pointRefOk p && within 0 2 d.alternates.length && d.alternates.all pointRefOk

def PromptDef.inRange (d : PromptDef) : Bool := within 0 31 d.channel && within 1 4 d.doorGroup && within 0 120 d.runOn

def optAll {α : Type} (p : α → Bool) : Option α → Bool
  | none => true
  | some a => p a

/-- Every entry of a list put to a test with its position. -/
def allFrom {α : Type} (p : Nat → α → Bool) : Nat → List α → Bool
  | _, [] => true
  | k, a :: as => p k a && allFrom p (k + 1) as

/-- The points of all defined stations. -/
def storedPoints (stations : List (Option StationDef)) : Nat :=
  (stations.map (fun o => match o with | none => 0 | some d => d.kinds.length)).sum

/-- A configuration every field of which a taken request could have set (R168: what a good area holds was once taken). -/
def StoredConfig.inRange (x : StoredConfig) : Bool :=
  x.settings.inRange && x.zones.rows.all (optAll ZoneDef.inRange) &&
  allFrom (fun c d => optAll (ChannelDef.inRange c) d) 0 x.channels.rows && x.groups.rows.all GroupDef.inRange &&
  x.prompts.rows.all (optAll PromptDef.inRange) && noRepeat ((x.prompts.rows.filterMap id).map PromptDef.channel) &&
  x.stations.rows.all (optAll StationDef.inRange) && decide (storedPoints x.stations.rows ≤ 64) &&
  x.inputs.rows.all InputDef.inRange && within 0 4 x.pool.length && x.pool.all pointRefOk && within 0 64 x.rotaLength &&
  allFrom (fun k e => if k < x.rotaLength then rotaEntryOk e else e.isNone) 0 x.rota.rows

end Sys2Proof.Machine
end

