-- ==== Sys2Proof/Machine/State.lean ====
section
/-! DEFINITION. The state of the part, the reasons a step can stop, and the state after reset. -/

namespace Sys2Proof.Machine

/-- Why the part stops with a fault. It never does: every error of the LZ460 is a reply code, a discard count, a notice or
a channel state (R185, R182, R47), and the part goes on. So there is no constructor. -/
inductive Fault : Type
deriving DecidableEq, Repr

/-- Why a command is refused by the model. -/
inductive Refusal where
  /-- Raised by an arm of exec whose command has no meaning yet. Safe: nothing can be proved of what it does. No arm
  of this model raises it. -/
  | notModelled (mnemonic : String)
deriving DecidableEq, Repr

/-- The state of the part: one field per block (00_scope.md 2.2), the working part settings, the fault-sense pins, the
model's counter of free values and the queue of commands waiting to be taken. -/
structure State where
  phase : Phase := .operating
  ctl : ModeCtl := {}
  settings : Settings := {}
  zones : Table Zone 12 := Table.fill 12 {}
  doors : Table DoorGroup 4 := Table.fill 4 {}
  chan : ChannelCtl := {}
  alloc : Allocator := {}
  line : StationLine := {}
  sel : Selector := {}
  link : LinkPort := {}
  store : Store := {}
  sensePins : Table Bool 32 := Table.fill 32 false
  freeCount : Nat := 0
  pending : List Instr := []
deriving DecidableEq, Repr

/-- The part right after reset: the end of start-up at the first power-on of a part whose settings store has never been
written (R170; log 8). Both areas are bad, so the working configuration is the factory contents and two STORE-FAULT
notices are queued (R192); the part is in STANDBY with its sweep timer running (R121), and its free transmitter has begun to send the
first of them (R186). -/
def State.reset : State :=
  { line := { sweepTimer := some 1000 }
    link :=
      { notices := [.storeFault .counter .badChecksum], tx := .notice (.storeFault .configuration .badChecksum) } }

end Sys2Proof.Machine
end

