-- ==== Sys2Proof/Machine/Ops.lean ====
section
/-! DEFINITION. The operations every block shares: named updates of the state's blocks, record accessors, notices (R187), replies
(R185), the transmitter's choice (R186), and how a command becomes a step. -/

namespace Sys2Proof.Machine

/-! ## Named updates, one per block -/

def State.updCtl (s : State) (f : ModeCtl → ModeCtl) : State := { s with ctl := f s.ctl }
def State.updZones (s : State) (f : Table Zone 12 → Table Zone 12) : State := { s with zones := f s.zones }
def State.updDoors (s : State) (f : Table DoorGroup 4 → Table DoorGroup 4) : State := { s with doors := f s.doors }
def State.updChan (s : State) (f : ChannelCtl → ChannelCtl) : State := { s with chan := f s.chan }
def State.updAlloc (s : State) (f : Allocator → Allocator) : State := { s with alloc := f s.alloc }
def State.updLine (s : State) (f : StationLine → StationLine) : State := { s with line := f s.line }
def State.updSel (s : State) (f : Selector → Selector) : State := { s with sel := f s.sel }
def State.updLink (s : State) (f : LinkPort → LinkPort) : State := { s with link := f s.link }
def State.updStore (s : State) (f : Store → Store) : State := { s with store := f s.store }
def State.setSettings (s : State) (x : Settings) : State := { s with settings := x }
def State.setPhase (s : State) (p : Phase) : State := { s with phase := p }
def State.setFreeCount (s : State) (n : Nat) : State := { s with freeCount := n }
def State.setSensePins (s : State) (t : Table Bool 32) : State := { s with sensePins := t }
def State.setPending (s : State) (q : List Instr) : State := { s with pending := q }

/-! ## Records by number -/

/-- The part mode. -/
def State.mode (s : State) : PartMode := s.ctl.mode

/-- Zone `n`, 1 to 12 (undefined for any other number). -/
def State.zone (s : State) (n : Nat) : Zone := s.zones.get1 {} n

def State.setZone (s : State) (n : Nat) (z : Zone) : State := s.updZones (fun t => t.set1 n z)

/-- Door group `g`, 1 to 4. -/
def State.doorGroup (s : State) (g : Nat) : DoorGroup := s.doors.get1 {} g

def State.setDoor (s : State) (g : Nat) (d : DoorGroup) : State := s.updDoors (fun t => t.set1 g d)

/-- Channel `c`, 0 to 31. -/
def State.channel (s : State) (c : Nat) : Channel := s.chan.channels.get {} c

/-- Share group `g`, 0 to 7. -/
def State.group (s : State) (g : Nat) : ShareGroup := s.alloc.groups.get {} g

/-- Prompt table entry `e`, 0 to 3. -/
def State.promptEntry (s : State) (e : Nat) : PromptEntry := s.alloc.prompts.get {} e

/-- Station `i`, 0 to 15. -/
def State.station (s : State) (i : Nat) : Station := s.line.stations.get {} i

def State.setStation (s : State) (i : Nat) (x : Station) : State :=
  s.updLine (fun l => { l with stations := l.stations.set i x })

/-- Logical input `i`, 1 to 13. -/
def State.input (s : State) (i : Nat) : LogicalInput := s.sel.inputs.get1 {} i

/-- Logical input `i` as the last completion was handed on with it (R152). -/
def State.handedInput (s : State) (i : Nat) : LogicalInput := s.sel.handed.get1 {} i

/-- Exercise record `r`, 0 or 1. -/
def State.exerciseRecord (s : State) (r : Nat) : ExerciseRecord := s.chan.exercise.get {} r

/-- The drive line of channel `c` (R36): off unless the part is operating (R170, R175; log 10, 17). -/
def State.driveLine (s : State) (c : Nat) : Drive :=
  match s.phase with
  | .operating => (s.channel c).drive
  | .startUp => .off
  | .held => .off

/-- The point record of the sample table at a point name, if it holds one (section 6.2). -/
def State.point (s : State) (p : PointRef) : Option Point :=
  match p.number with
  | 0 => none
  | k + 1 => (s.station p.station).points[k]?

/-- The kinds a defined station lists at a point name (R141, R3). -/
def State.listedKind (s : State) (p : PointRef) : Option PointKind :=
  match p.number with
  | 0 => none
  | k + 1 => if (s.station p.station).defined then (s.station p.station).defn.kinds[k]? else none

/-! ## Notices (R187) -/

/-- A notice joins the end of the queue, or is dropped at a queue of 16 and sets the notices-lost flag. -/
def LinkPort.queueNotice (l : LinkPort) (n : Notice) : LinkPort :=
  if l.notices.length < 16 then { l with notices := l.notices ++ [n] } else { l with noticesLost := true }

/-- Notices queued one after another. -/
def LinkPort.queueNotices (l : LinkPort) : List Notice → LinkPort
  | [] => l
  | n :: ns => (l.queueNotice n).queueNotices ns

def State.notify (s : State) (n : Notice) : State := s.updLink (fun l => l.queueNotice n)

def State.notifyAll (s : State) (ns : List Notice) : State := s.updLink (fun l => l.queueNotices ns)

/-! ## Replies (R184, R185) -/

/-- A reply is formed and is ready. -/
def State.reply (s : State) (kind tag : Nat) (code : ResultCode) (content : Content) : State :=
  s.updLink (fun l => { l with ready := some ⟨kind, tag, code, content⟩ })

/-- WRONG-MODE carries the part mode. -/
def State.wrongMode (s : State) (kind tag : Nat) : State := s.reply kind tag .wrongMode (.mode s.mode)

/-- BAD-FIELD carries the index of the first failing field. -/
def State.badField (s : State) (kind tag index : Nat) : State := s.reply kind tag .badField (.field index)

def State.noSuchItem (s : State) (kind tag : Nat) : State := s.reply kind tag .noSuchItem .nothing

def State.done (s : State) (kind tag : Nat) : State := s.reply kind tag .done .nothing

/-- A configuration request: taken in STANDBY alone (WRONG-MODE elsewhere), then its fields checked in order, the first that
fails named in BAD-FIELD; `act` is what it does when every field passes. -/
def State.configure (s : State) (kind tag : Nat) (checks : List (Nat × Bool)) (act : State → State) : State :=
  if s.mode = .standby then
    match firstBad checks with
    | some f => s.badField kind tag f
    | none => act s
  else s.wrongMode kind tag

/-- A request that names one record: `bad` is the field index where the number is outside its range, and an undefined
record is answered NO-SUCH-ITEM. -/
def State.onItem (s : State) (kind tag : Nat) (inRange defined : Bool) (act : State → State) : State :=
  if inRange then if defined then act s else s.noSuchItem kind tag else s.badField kind tag 1

/-- The reply of a RESTART that was taken (R175 step 1; log 30). -/
def Reply.isRestart (r : Reply) : Bool := decide (r.kind = 0x1A) && decide (r.code = .done)

/-- A RESTART has been taken and its reply's last character has not been sent: the reply is ready or in transmission (R175). -/
def LinkPort.restarting (l : LinkPort) : Bool :=
  (match l.ready with
   | some r => r.isRestart
   | none => false) ||
  (match l.tx with
   | .reply r => r.isRestart
   | .notice _ => false
   | .idle => false)

/-! ## The transmitter (R186) -/

/-- Whenever the transmitter is free: a ready reply is sent, or else the oldest notice. -/
def LinkPort.pump (l : LinkPort) : LinkPort :=
  match l.tx with
  | .idle =>
    match l.ready with
    | some r => { l with ready := none, tx := .reply r }
    | none =>
      match l.notices with
      | [] => l
      | n :: ns => { l with notices := ns, tx := .notice n }
  | .reply _ => l
  | .notice _ => l

/-- The transmitter's choice, made while the part is operating (R170: notices queued during start-up are sent once STANDBY
is reached). -/
def State.pump (s : State) : State :=
  match s.phase with
  | .operating => s.updLink LinkPort.pump
  | .startUp => s
  | .held => s

/-! ## Commands as steps -/

/-- An event of the operating part: `f` at that event, and then the transmitter's choice. In start-up and in reset the event
does not come about (log 5). -/
def State.event (s : State) (f : State → State) : State :=
  match s.phase with
  | .operating => (f s).pump
  | .startUp => s
  | .held => s

/-- A saturating count of the link port. -/
def countLink (n : Nat) : Nat := countUp 65535 n

/-- The frame a request would be received as, for its place in the request queue. -/
def frameOf (i : Instr) : Frame :=
  match encodeRequest i with
  | some (kind, tag, body) => ⟨kind, tag, body⟩
  | none => ⟨0, 0, []⟩

/-- A return from FALLBACK (R179): the notice FALLBACK-LEFT, the link silence timer and the supply staleness timer started,
the part mode RUN. The combined requests do not depend on which of the two modes it is (R32; log 31). -/
def State.leaveFallback (s : State) (cause : LeftCause) : State :=
  ((s.notify (.fallbackLeft (s.ctl.fallbackTime / 1000) cause)).updCtl (fun m => { m with mode := .run })
    |>.updLink (fun l => { l with silenceTimer := some (seconds s.settings.linkSilence) })
    |>.updAlloc (fun a => { a with stalenessTimer := some stalenessTime }))

/-- The taking of a request in FALLBACK ends FALLBACK first (R179). -/
def State.endFallback (s : State) (cause : LeftCause) : State :=
  match s.mode with
  | .fallback => s.leaveFallback cause
  | .standby => s
  | .run => s
  | .windDown => s

/-- A request command (log 1, log 2): the request `i` comes to the request queue. With the queue empty it becomes the head and
is taken, which is `act`, ending FALLBACK first (R184, R179). Behind another request it waits its turn in the queue, and a
queue of 4 discards it (R183 step 3). -/
def State.submit (s : State) (i : Instr) (act : State → State) : State :=
  s.event fun s =>
    match s.link.requests with
    | [] => act ((s.updLink (fun l => { l with requests := [frameOf i] })).endFallback .queuedRequest)
    | _ :: _ =>
      if s.link.requests.length < 4 then s.updLink (fun l => { l with requests := l.requests ++ [frameOf i] })
      else s.updLink (fun l => { l with counts := { l.counts with queueFull := countLink l.counts.queueFull } })

end Sys2Proof.Machine
end

