-- ==== Sys2Proof/Machine/Clock.lean ====
section
/-! DEFINITION. The passing of time (log 3): what one millisecond does to every timer, whatever is commanded. An expiry is a command of
its own, so a running timer that has reached 0 stays there until its expiry is taken (log 4). -/

namespace Sys2Proof.Machine

/-- A running timer one millisecond on. -/
def elapse (t : Option Nat) : Option Nat := t.map (fun n => n - 1)

/-- The part modes in which the exercise hour timers and the checkpoint timer count (R158, R163). -/
def PartMode.counts : PartMode → Bool
  | .run => true
  | .fallback => true
  | .standby => false
  | .windDown => false

def Channel.tick (x : Channel) : Channel := { x with timer := elapse x.timer, cleanRun := elapse x.cleanRun }

/-- An exercise record one millisecond on: the hour timer where it counts, the retry timer, and the run timer up to the exercise
duration (R158, R160, R162). -/
def ExerciseRecord.tick (counting : Bool) (duration : Nat) (x : ExerciseRecord) : ExerciseRecord :=
  { x with
    hourTime := if counting && x.bound.isSome then countUp Sys2Proof.Machine.hourTime x.hourTime else x.hourTime
    retry := elapse x.retry
    runTime := if x.running then countUp (seconds duration) x.runTime else x.runTime }

/-- The hour timer of a record counts: RUN or FALLBACK, and its bound channel not RUNNING (R158). -/
def State.hourCounts (s : State) (x : ExerciseRecord) : Bool :=
  s.mode.counts &&
  (match x.bound with
   | none => false
   | some c => !decide ((s.channel c).state = .running))

/-- The channel controller's timers one millisecond on. -/
def State.tickChannels (s : State) : State :=
  s.updChan (fun c =>
    { c with
      channels := c.channels.map Channel.tick
      ambientTimer := elapse c.ambientTimer
      exercise := c.exercise.map (fun x => x.tick (s.hourCounts x) s.settings.exerciseDuration)
      checkpointTime := if s.mode.counts then countUp checkpointPeriod c.checkpointTime else c.checkpointTime })

/-- The allocator's timers one millisecond on. -/
def Allocator.tick (a : Allocator) : Allocator :=
  { a with
    stalenessTimer := elapse a.stalenessTimer
    slotTimer := elapse a.slotTimer
    prompts := a.prompts.map (fun e => { e with runOnTimer := elapse e.runOnTimer }) }

/-- The station line's timers one millisecond on. -/
def StationLine.tick (l : StationLine) : StationLine :=
  { l with
    sweepTimer := elapse l.sweepTimer
    inFlight := l.inFlight.map (fun w => { w with poll := w.poll.map (fun p => { p with window := p.window - 1 }) }) }

/-- The fallback time one millisecond on: it counts in FALLBACK, up to 65535 s (R166). -/
def ModeCtl.tick (m : ModeCtl) : ModeCtl :=
  match m.mode with
  | .fallback => { m with fallbackTime := countUp (seconds 65535) m.fallbackTime }
  | .standby => m
  | .run => m
  | .windDown => m

/-- One millisecond of the operating part. -/
def State.elapsed (s : State) : State :=
  ((((((s.tickChannels).updCtl ModeCtl.tick).updZones (fun t =>
      t.map (fun z => { z with holdTimer := elapse z.holdTimer }))).updDoors (fun t =>
      t.map (fun d => { d with limitTimer := elapse d.limitTimer }))).updAlloc Allocator.tick).updLine
    StationLine.tick).updLink (fun l => { l with silenceTimer := elapse l.silenceTimer })

/-- One millisecond (log 3): the operating part's timers and the transmitter's choice; in start-up the exercise retry timers
alone go on (R175 step 5); held in reset, nothing. -/
def State.tick (s : State) : State :=
  match s.phase with
  | .operating => s.elapsed.pump
  | .startUp => s.updChan (fun c => { c with exercise := c.exercise.map (fun x => { x with retry := elapse x.retry }) })
  | .held => s

end Sys2Proof.Machine
end

