-- ==== Sys2Proof/Machine/ChannelOps.lean ====
section
/-! DEFINITION. The channel controller's operations (chapters 2 and 8) on its own tables: forming requests, grants, releases with
their cascade, faults, exercise records. They act on a Plant: the channel tables, with the notices they produce and the
number of channels they release, so that by construction they touch nothing else. -/

namespace Sys2Proof.Machine

/-- The channel tables during one event: the notices produced so far, oldest first, and the channels released so far. -/
structure Plant where
  chan : ChannelCtl
  produced : List Notice
  released : Nat
deriving DecidableEq, Repr

/-- The channel tables at the start of an event. -/
def State.plant (s : State) : Plant := ⟨s.chan, [], 0⟩

/-- The channel tables as an event left them, and the notices it produced queued in order (R187). -/
def State.withPlant (s : State) (p : Plant) : State := (s.updChan (fun _ => p.chan)).notifyAll p.produced

/-- An event that acts on the channel tables alone. -/
def State.onPlant (s : State) (f : Plant → Plant) : State := s.withPlant (f s.plant)

def Plant.ch (p : Plant) (c : Nat) : Channel := p.chan.channels.get {} c

def Plant.setCh (p : Plant) (c : Nat) (x : Channel) : Plant :=
  { p with chan := { p.chan with channels := p.chan.channels.set c x } }

def Plant.mapCh (p : Plant) (f : Nat → Channel → Channel) : Plant :=
  { p with chan := { p.chan with channels := p.chan.channels.mapIdx f } }

def Plant.notice (p : Plant) (n : Notice) : Plant := { p with produced := p.produced ++ [n] }

/-- The channel joins the end of the grant order list (section 2.1). -/
def Plant.joinOrder (p : Plant) (c : Nat) : Plant :=
  { p with chan := { p.chan with grantOrder := p.chan.grantOrder ++ [c] } }

/-- The channel leaves the grant order list. -/
def Plant.leaveOrder (p : Plant) (c : Nat) : Plant :=
  { p with chan := { p.chan with grantOrder := p.chan.grantOrder.filter (fun d => !decide (d = c)) } }

def Plant.exRec (p : Plant) (r : Nat) : ExerciseRecord := p.chan.exercise.get {} r

def Plant.setRec (p : Plant) (r : Nat) (x : ExerciseRecord) : Plant :=
  { p with chan := { p.chan with exercise := p.chan.exercise.set r x } }

/-- Every exercise record bound to channel `c` put through `f`. -/
def Plant.mapBound (p : Plant) (c : Nat) (f : ExerciseRecord → ExerciseRecord) : Plant :=
  { p with chan := { p.chan with
      exercise := p.chan.exercise.map (fun x => if x.bound = some c then f x else x) } }

/-! ## Requests (R31, R32) -/

/-- A part mode that forces every combined request false (R32). -/
def PartMode.forcesFalse : PartMode → Bool
  | .standby => true
  | .windDown => true
  | .run => false
  | .fallback => false

/-- One round of forming: a channel requests by itself, or is drawn by a defined channel that names it as prerequisite and
requests in the round before. -/
def combinedRound (mode : PartMode) (chans : List Channel) (before : List Bool) : List Bool :=
  mapFrom (fun c x =>
      x.defined && !x.inhibit && !mode.forcesFalse &&
      (x.own || x.prompt || x.exercise ||
        (chans.zip before).any (fun d => d.1.defined && decide (d.1.defn.prerequisite = some c) && d.2)))
    0 chans

/-- Rounds until nothing changes: every drawn request is then formed from its dependents' new combined requests (R32;
log 18). -/
def combinedRounds (mode : PartMode) (chans : List Channel) : Nat → List Bool → List Bool
  | 0, before => before
  | k + 1, before =>
    let after := combinedRound mode chans before
    if after = before then before else combinedRounds mode chans k after

/-- The combined requests of all channels (R31, R32). -/
def combinedRequests (mode : PartMode) (chans : List Channel) : List Bool :=
  combinedRounds mode chans 33 (chans.map (fun _ => false))

/-- Whether a defined channel that names `c` as prerequisite has a true combined request (R31). -/
def drawnFrom (chans : List Channel) (combined : List Bool) (c : Nat) : Bool :=
  (chans.zip combined).any (fun d => d.1.defined && decide (d.1.defn.prerequisite = some c) && d.2)

/-- The drawn and combined requests formed again, with IDLE and WAITING answering (R31, R32, R40). -/
def Plant.formRequests (mode : PartMode) (p : Plant) : Plant :=
  let chans := p.chan.channels.rows
  let combined := combinedRequests mode chans
  p.mapCh (fun c x =>
    let now := combined.getD c false
    { x with
      drawn := x.defined && drawnFrom chans combined c
      combined := now
      state :=
        match x.state with
        | .idle => if now then .waiting else .idle
        | .waiting => if now then .waiting else .idle
        | .starting => .starting
        | .running => .running
        | .stopping => .stopping
        | .lockout => .lockout
        | .faulted => .faulted
        | .latched => .latched })

/-- The channels that answer a withdrawn request with a release: RUNNING, minimum on expired, combined request false
(R43), in channel-number order. -/
def Plant.withdrawn (p : Plant) : List Nat :=
  p.chan.channels.indices (fun x => x.defined && decide (x.state = .running) && x.minOnExpired && !x.combined)

/-! ## Releases (R44, R51, R162) -/

/-- The drive line goes off and the channel rests: LOCKOUT for its minimum off, or WAITING or IDLE by its combined request
(R44 step 5, R45). -/
def Channel.rest (x : Channel) : Channel :=
  { x with
    applied := 0
    timer := timerOf x.defn.minOff
    state := if 0 < x.defn.minOff then .lockout else if x.combined then .waiting else .idle }

/-- A release's effect on its own record (R44 steps 2, 4, 5). -/
def Channel.released (x : Channel) : Channel :=
  let y := { x with minOnExpired := false, cleanRun := none }
  if 0 < x.defn.afterRun then
    { y with state := .stopping, timer := timerOf x.defn.afterRun, applied := x.lminLevel }
  else y.rest

/-- A release or fault of a bound channel with a true exercise request, taken in STARTING or RUNNING, interrupts its
exercise (R162). -/
def Plant.interrupt (cause : PostponedCause) (c : Nat) (p : Plant) : Plant :=
  if (p.ch c).exercise then
    ([0, 1].foldl (fun q r =>
        if (q.exRec r).bound = some c then
          (q.setRec r { q.exRec r with retry := some retryTime }).notice
            (.exercisePostponed c cause ((q.exRec r).runTime / 1000))
        else q) p).setCh c { p.ch c with exercise := false }
  else p

/-- The STARTING and RUNNING channels that name `c` as prerequisite, in channel-number order (R51). -/
def Plant.dependents (p : Plant) (c : Nat) : List Nat :=
  p.chan.channels.indices (fun x => x.active && decide (x.defn.prerequisite = some c))

/-- A release with its cascade (R44, R51): the channel's own record, then the releases of its dependents if it was RUNNING,
then the report to its exercise record (log 20). `fuel` bounds the depth of the cascade; each level releases a channel. -/
def Plant.releaseTree : Nat → Nat → Plant → Plant
  | 0, _, p => p
  | k + 1, c, p =>
    let x := p.ch c
    if x.active then
      let q := (p.setCh c x.released).leaveOrder c
      let q := { q with released := q.released + 1 }
      let q :=
        if x.state = .running then
          let q := q.mapBound c (fun e => { e with running := false })
          (q.dependents c).foldl (fun q d => Plant.releaseTree k d q) q
        else q
      q.interrupt .release c
    else p

/-- The exercise requests, channel by channel: a change of one is carried into the combined requests (R159). -/
def Plant.exerciseRequests (p : Plant) : List Bool := p.chan.channels.rows.map Channel.exercise

/-- The requests formed again and answered, until no RUNNING channel is left to release (R32, R40, R43). -/
def Plant.reformLoop (mode : PartMode) : Nat → Plant → Plant
  | 0, p => p.formRequests mode
  | k + 1, p =>
    let q := p.formRequests mode
    match q.withdrawn with
    | [] => q
    | c :: cs => Plant.reformLoop mode k ((c :: cs).foldl (fun q d => q.releaseTree 33 d) q)

/-- The combined requests formed again at an event that changes one of their inputs, and the channels' answers (R32). -/
def Plant.reform (mode : PartMode) (p : Plant) : Plant := p.reformLoop mode 33

/-- Where an event changed an exercise request, the combined requests are formed again (R159, R32). -/
def Plant.reformAfter (mode : PartMode) (before p : Plant) : Plant :=
  if p.exerciseRequests = before.exerciseRequests then p else p.reform mode

/-- A release that reaches channel `c` (R44, R52). -/
def Plant.release (mode : PartMode) (c : Nat) (p : Plant) : Plant := Plant.reformAfter mode p (p.releaseTree 33 c)

/-- Releases in the order given. -/
def Plant.releaseEach (mode : PartMode) (cs : List Nat) (p : Plant) : Plant :=
  cs.foldl (fun q c => q.release mode c) p

/-! ## Faults (R47) -/

/-- A fault's effect on its own record (R47 steps 1 to 4; log 35). -/
def Channel.faulted (x : Channel) : Channel :=
  { x with state := .faulted, applied := 0, minOnExpired := false, cleanRun := none, timer := some faultBackoff,
           faults := min 3 (x.faults + 1) }

/-- A fault-sense report taken for channel `c` (R47). -/
def Plant.fault (mode : PartMode) (c : Nat) (p : Plant) : Plant :=
  let x := p.ch c
  if x.defined ∧ x.state.drawing = true then
    let q := (p.setCh c x.faulted).leaveOrder c
    let q :=
      if x.state = .running then
        let q := q.mapBound c (fun e => { e with running := false })
        (q.dependents c).foldl (fun q d => q.releaseTree 33 d) q
      else q
    let q := q.notice (.channelFaulted c x.state x.faulted.faults)
    let q := if x.state.inService then q.interrupt .fault c else q
    Plant.reformAfter mode p q
  else p

/-! ## Grants (R41, R43, R45, R52) -/

/-- Entry to RUNNING (R43, R160): the minimum-on and clean-run timers start, the run timer starts at 0, and a channel whose
minimum on is 0 and whose request is withdrawn is released at the entry. -/
def Plant.enterRunning (mode : PartMode) (c : Nat) (p : Plant) : Plant :=
  let x := p.ch c
  let q := (p.setCh c
      { x with state := .running, timer := timerOf x.defn.minOn, minOnExpired := decide (x.defn.minOn = 0),
               cleanRun := some cleanRunTime }).mapBound c (fun e => { e with runTime := 0, running := true })
  if x.defn.minOn = 0 ∧ x.combined = false then q.release mode c else q

/-- A grant that reaches a WAITING channel (R41): STARTING, with an ASSERTED fault-sense input taken as a report at that
entry (R47), and RUNNING at once where the start time is 0. -/
def Plant.startChannel (mode : PartMode) (c : Nat) (p : Plant) : Plant :=
  let x := p.ch c
  let q := (p.setCh c
      { x with state := .starting, applied := x.lminLevel, timer := timerOf x.defn.startTime, minOnExpired := false
      }).joinOrder c
  if x.sense then q.fault mode c
  else if x.defn.startTime = 0 then q.enterRunning mode c
  else q

/-- A grant of a STOPPING channel under the restart allowance (R45). -/
def Plant.resumeChannel (mode : PartMode) (c : Nat) (p : Plant) : Plant :=
  ((p.setCh c { p.ch c with applied := (p.ch c).lminLevel }).joinOrder c).enterRunning mode c

/-- A grant as it finds the channel (R52): carried out in WAITING, as a renewal in RUNNING, and in STOPPING with the restart
allowance and a true combined request; not carried out in any other state. -/
def Plant.grant (mode : PartMode) (c : Nat) (p : Plant) : Plant :=
  let x := p.ch c
  if x.defined then
    match x.state with
    | .waiting => p.startChannel mode c
    | .stopping => if x.defn.restartAllowed && x.combined then p.resumeChannel mode c else p
    | .running => p
    | .idle => p
    | .starting => p
    | .lockout => p
    | .faulted => p
    | .latched => p
  else p

/-! ## Figures over the channels -/

/-- The sum of a figure over the channels. -/
def Plant.sum (p : Plant) (f : Nat → Channel → Nat) : Nat := (mapFrom f 0 p.chan.channels.rows).sum

/-- The total counted current of all STARTING, RUNNING and STOPPING channels (R64). -/
def Plant.total (p : Plant) : Nat := p.sum (fun _ x => x.counted)

/-- The number of defined channels in a state. -/
def Plant.countIn (p : Plant) (st : ChannelState) : Nat :=
  p.sum (fun _ x => if x.defined && decide (x.state = st) then 1 else 0)

/-- The number of channels in STARTING, RUNNING or STOPPING (R55). -/
def Plant.drawingCount (p : Plant) : Nat := p.sum (fun _ x => if x.defined && x.state.drawing then 1 else 0)

/-- The shedding order (R64): lowest priority first, and within one priority the most recently granted first. -/
def Plant.sheddingOrder (p : Plant) : List Nat :=
  let recent := p.chan.grantOrder.reverse.filter (fun c => (p.ch c).active)
  [7, 6, 5, 4, 3, 2, 1, 0].flatMap (fun pr => recent.filter (fun c => decide ((p.ch c).defn.priority = pr)))

/-- Channels released one more at a time in the shedding order while the total exceeds the ceiling and a channel is
STARTING or RUNNING (R64 step 2, R80 step 2). -/
def Plant.shed (mode : PartMode) (ceiling : Nat) : Nat → Plant → Plant
  | 0, p => p
  | k + 1, p =>
    if ceiling < p.total then
      match p.sheddingOrder with
      | [] => p
      | c :: _ => (p.release mode c).shed mode ceiling k
    else p

/-- The forced release (R64). -/
def Plant.forcedRelease (mode : PartMode) (ceiling threshold : Nat) (p : Plant) : Plant :=
  let q := p.releaseEach mode (p.sheddingOrder.filter (fun c => decide (threshold ≤ (p.ch c).defn.priority)))
  q.shed mode ceiling 33

/-! ## Exercise records (chapter 8) -/

/-- The due flag formed from the idle hours and the interval (R158). -/
def ExerciseRecord.formDue (interval : Nat) (x : ExerciseRecord) : ExerciseRecord :=
  { x with due := decide (interval ≤ x.idleHours) }

/-- The due flag formed against a new interval at a PART-SETTINGS: where that clears it the retry timer stops with it (R158;
log 48). -/
def ExerciseRecord.atInterval (interval : Nat) (x : ExerciseRecord) : ExerciseRecord :=
  let y := x.formDue interval
  if x.due && !y.due then { y with retry := none } else y

/-- The exercise request a record gives its bound channel (R159). -/
def ExerciseRecord.request (x : ExerciseRecord) : Bool := x.due && x.retry.isNone

/-- The exercise request of record `r`'s bound channel formed again (R159). -/
def Plant.formExercise (r : Nat) (p : Plant) : Plant :=
  match (p.exRec r).bound with
  | none => p
  | some c => p.setCh c { p.ch c with exercise := (p.ch c).defined && (p.exRec r).request }

/-- Both exercise requests formed again. -/
def Plant.formExercises (p : Plant) : Plant := (p.formExercise 0).formExercise 1

/-- The defined channels that carry the exercise flag, in channel-number order (R157). -/
def Plant.flagged (p : Plant) : List Nat := p.chan.channels.indices (fun x => x.defined && x.defn.exercise)

/-- A record bound again: unchanged where its bound channel is the same, cleared where it changes (R157). -/
def ExerciseRecord.bind (c : Option Nat) (x : ExerciseRecord) : ExerciseRecord :=
  if x.bound = c then x else { bound := c }

/-- The binding formed again (R157). A channel bound to no record, and one whose record is cleared, has its exercise request
false (R159; log 29). -/
def Plant.rebind (p : Plant) : Plant :=
  let fl := p.flagged
  let a := ExerciseRecord.bind fl[0]? (p.exRec 0)
  let b := ExerciseRecord.bind fl[1]? (p.exRec 1)
  let q := (p.setRec 0 a).setRec 1 b
  q.mapCh (fun c x =>
    let kept := (decide (a.bound = some c) && a.request) || (decide (b.bound = some c) && b.request)
    { x with exercise := x.exercise && kept })

/-! ## Ambient inhibit (R37, R38) -/

/-- The ambient value, status and hold timer brought up to date from OUT at a sweep completion (R37). -/
def ChannelCtl.ambientUpdate (out : LogicalInput) (c : ChannelCtl) : ChannelCtl :=
  if out.countsInvalid then
    match c.ambientStatus with
    | .valid => { c with ambientStatus := .held, ambientTimer := some ambientHoldTime }
    | .held => c
    | .expired => c
  else { c with ambientValue := out.value, ambientStatus := .valid, ambientTimer := none }

/-- The ambient inhibit of every defined channel at a sweep completion (R38). `wasExpired` is whether the status was EXPIRED
before the sweep's update (log 21). -/
def Plant.evaluateInhibits (wasExpired : Bool) (p : Plant) : Plant :=
  p.mapCh (fun _ x =>
    if x.defined then
      { x with
        inhibit := x.defn.inhibitAt p.chan.ambientStatus p.chan.ambientValue (wasExpired || x.fresh) x.inhibit
        fresh := false }
    else x)

/-! ## The zone update (R29, R30, R33, R34) -/

/-- What one served zone contributes to a channel's driving value (R29). -/
def contribution (dir : Direction) (d : ZoneDemand) (ventFloor : Nat) : Nat :=
  match dir with
  | .heat => d.demand.toNat
  | .cool => (-d.demand).toNat
  | .air => if d.mode = .off then 0 else max d.demand.natAbs ventFloor

/-- The driving value of a channel from an update and the zones' vent floors (R29). -/
def drivingValue (update : Table ZoneDemand 12) (zones : Table Zone 12) (d : ChannelDef) : Nat :=
  (d.served.map (fun z => contribution d.direction (update.get1 {} z) (zones.get1 {} z).defn.ventFloor)).foldl max 0

/-- One channel at an update: driving value, own request, PWM target, and a fall of the target below the applied level of
a RUNNING channel taking effect at once (R29, R30, R33, R34). -/
def channelAtUpdate (v : Nat) (x : Channel) : Channel :=
  if x.defined then
    let target := x.defn.targetAt v
    { x with
      driving := v
      own := x.defn.ownAt v x.own
      target := target
      applied := if x.state = .running ∧ target < x.applied then target else x.applied }
  else x

/-! ## The channel table across modes -/

/-- Entry to RUN (R54). -/
def channelAtRunEntry (x : Channel) : Channel :=
  if x.defined then { x with driving := 0, own := false, target := x.defn.targetAtRest } else x

/-- Every prompt request ends (R115). -/
def Plant.endPrompts (p : Plant) : Plant := p.mapCh (fun _ x => { x with prompt := false })

end Sys2Proof.Machine
end

