-- ==== Sys2Proof/Machine/AllocOps.lean ====
section
/-! DEFINITION. The supply allocator's operations (chapters 3 to 5): the slot decision in its nine stages, and the prompt grants at
a door opening. They act on a Decision: the allocator's own state, the channel tables, and the lists of the decision. -/

namespace Sys2Proof.Machine

/-- How a channel stands on the lists of a decision (R71). -/
inductive Listing where
  | waiting | renewal | stopping
deriving DecidableEq, Repr

/-- A slot decision in progress: `renewals` are the renewals not yet granted, `granted` the channels granted so far in the
order they were granted, `listed` the listed channels in channel-number order (R71). -/
structure Decision where
  alloc : Allocator
  plant : Plant
  renewals : List Nat := []
  granted : List Nat := []
  listed : List (Nat × Listing) := []
deriving DecidableEq, Repr

def Decision.grp (d : Decision) (g : Nat) : ShareGroup := d.alloc.groups.get {} g

def Decision.setGrp (d : Decision) (g : Nat) (x : ShareGroup) : Decision :=
  { d with alloc := { d.alloc with groups := d.alloc.groups.set g x } }

/-- A renewal of this decision that has not been granted and is still RUNNING (R68). -/
def Decision.ungranted (d : Decision) (c : Nat) (x : Channel) : Bool :=
  d.renewals.contains c && decide (x.state = .running)

/-- The decision total (R68). -/
def Decision.total (d : Decision) : Nat := d.plant.sum (fun c x => if d.ungranted c x then 0 else x.counted)

/-- A channel's figure in its group's load (R68). -/
def Channel.loadFigure (x : Channel) : Nat :=
  if x.defined then
    match x.state with
    | .starting => x.defn.startFigure
    | .running => x.counted
    | .stopping => 0
    | .idle => 0
    | .waiting => 0
    | .lockout => 0
    | .faulted => 0
    | .latched => 0
  else 0

/-- The group load of a share group (R68). -/
def Decision.load (d : Decision) (g : Nat) : Nat :=
  d.plant.sum (fun c x => if x.defn.group = g ∧ d.ungranted c x = false then x.loadFigure else 0)

/-- Eligibility (R67). -/
def Plant.eligible (threshold : Nat) (p : Plant) (x : Channel) : Bool :=
  x.defined && decide (x.defn.priority < threshold) &&
  (match x.defn.prerequisite with
   | none => true
   | some q => (p.ch q).defined && decide ((p.ch q).state = .running)) &&
  !x.inhibit && x.combined

/-- The grant current of a listed channel (R68). -/
def grantCurrent (k : Listing) (x : Channel) : Nat :=
  match k with
  | .waiting => x.defn.surge
  | .renewal => x.counted
  | .stopping => x.defn.currentAtLmin

/-- The current already counted for a listed channel in the decision total (R72). -/
def alreadyCounted (k : Listing) (x : Channel) : Nat :=
  match k with
  | .waiting => 0
  | .renewal => 0
  | .stopping => x.counted

/-- The figure the group peak test adds to the group load (R72, R98). -/
def peakFigure (k : Listing) (x : Channel) : Nat :=
  match k with
  | .waiting => x.defn.startFigure
  | .renewal => x.counted
  | .stopping => x.defn.currentAtLmin

/-- The ceiling test with `freed` current taken out of the total (R72, R78). -/
def Decision.ceilingOk (d : Decision) (freed : Int) (k : Listing) (x : Channel) : Bool :=
  decide ((d.total : Int) - alreadyCounted k x + grantCurrent k x - freed ≤ d.alloc.ceiling)

/-- The group peak test with `freed` current taken out of the group load (R72, R78). -/
def Decision.peakOk (d : Decision) (freed : Int) (k : Listing) (x : Channel) : Bool :=
  decide ((d.load x.defn.group : Int) + peakFigure k x - freed ≤ (d.grp x.defn.group).defn.peak)

/-- The credit test (R72, R94). -/
def Decision.creditOk (d : Decision) (k : Listing) (x : Channel) : Bool :=
  decide ((grantCurrent k x : Int) ≤ (d.grp x.defn.group).credit)

/-- A listed channel whose state an earlier release, cascade or withdrawal has changed is granted nothing (R71). -/
def listingStands (k : Listing) (x : Channel) : Bool :=
  match k with
  | .waiting => decide (x.state = .waiting)
  | .renewal => decide (x.state = .running)
  | .stopping => decide (x.state = .stopping)

/-- A grant carried into the channel; charged to the group's credit unless it is a rota grant (R72, R95). -/
def Decision.grant (mode : PartMode) (charged : Bool) (c : Nat) (k : Listing) (d : Decision) : Decision :=
  let x := d.plant.ch c
  let d :=
    if charged then
      d.setGrp x.defn.group
        { d.grp x.defn.group with credit := (d.grp x.defn.group).credit - grantCurrent k x }
    else d
  { d with
    plant := d.plant.grant mode c
    renewals := d.renewals.filter (fun r => !decide (r = c))
    granted := d.granted ++ [c]
    alloc := { d.alloc with lastGrants := d.alloc.lastGrants + 1 } }

def Decision.release (mode : PartMode) (c : Nat) (d : Decision) : Decision :=
  { d with plant := d.plant.release mode c }

/-! ## Stages 1 to 5 -/

/-- Stage 1: every share group's credit refilled, up to its capacity (R92). -/
def ShareGroup.refilled (x : ShareGroup) : ShareGroup :=
  { x with credit := min (x.defn.capacity : Int) (x.credit + x.defn.refill) }

/-- Stage 2: the rota position advances, unless the first-slot flag is set or the rota is empty (R69). -/
def Allocator.advanceRota (a : Allocator) : Allocator :=
  if a.rotaLength = 0 then a
  else if a.firstSlot then { a with firstSlot := false }
  else { a with rotaPosition := (a.rotaPosition + 1) % a.rotaLength }

/-- This slot's rota entry (R69). -/
def Allocator.rotaEntry (a : Allocator) : Option Nat :=
  if a.rotaLength = 0 then none else a.rota.get none a.rotaPosition

/-- A held charge, which stops at minus the capacity (R93). -/
def ShareGroup.charged (amount : Nat) (x : ShareGroup) : ShareGroup :=
  { x with credit := max (-(x.defn.capacity : Int)) (x.credit - amount) }

/-- The STARTING and RUNNING channels of the held set, in channel-number order (R70). -/
def Plant.heldCharged (p : Plant) : List Nat :=
  p.chan.channels.indices (fun x =>
    x.defined && (decide (x.state = .starting) || (decide (x.state = .running) && !x.minOnExpired)))

/-- Stage 3: each held STARTING and RUNNING channel charged its counted current (R70, R93). -/
def Decision.chargeHeld (d : Decision) : Decision :=
  d.plant.heldCharged.foldl (fun d c =>
    let x := d.plant.ch c
    d.setGrp x.defn.group ((d.grp x.defn.group).charged x.counted)) d

/-- How a channel is listed at stage 4 (R71). -/
def Channel.listing (x : Channel) : Option Listing :=
  if x.defined then
    match x.state with
    | .waiting => some .waiting
    | .running => if x.minOnExpired && x.combined then some .renewal else none
    | .stopping => if x.defn.restartAllowed && x.combined then some .stopping else none
    | .idle => none
    | .starting => none
    | .lockout => none
    | .faulted => none
    | .latched => none
  else none

/-- The listed channels of a table from number `k` on (R71). -/
def listedFrom : Nat → List Channel → List (Nat × Listing)
  | _, [] => []
  | k, x :: xs =>
    match x.listing with
    | none => listedFrom (k + 1) xs
    | some l => (k, l) :: listedFrom (k + 1) xs

/-- Stage 4: the renewals and the candidates (R71). -/
def Decision.makeLists (d : Decision) : Decision :=
  let listed := listedFrom 0 d.plant.chan.channels.rows
  { d with
    listed := listed
    renewals := (listed.filter (fun e => decide (e.2 = .renewal))).map Prod.fst }

/-- Stage 5: the rota grant, without the credit test and without a charge (R73, R95). -/
def Decision.rotaGrant (mode : PartMode) (d : Decision) : Decision :=
  match d.alloc.rotaEntry with
  | none => d
  | some c =>
    match d.listed.find? (fun e => decide (e.1 = c)) with
    | none => d
    | some e =>
      let x := d.plant.ch c
      if listingStands e.2 x && d.plant.eligible d.alloc.threshold x && d.ceilingOk 0 e.2 x && d.peakOk 0 e.2 x then
        d.grant mode false c e.2
      else d

/-! ## Stages 6 and 7 -/

/-- The channels along a channel's chain of prerequisites (R77). -/
def Plant.prerequisites (p : Plant) : Nat → Nat → List Nat
  | 0, _ => []
  | k + 1, c =>
    match (p.ch c).defn.prerequisite with
    | none => []
    | some q => q :: p.prerequisites k q

/-- The victims of a failing channel in the shedding order (R77, R78). -/
def Decision.victims (w : Nat) (c : Nat) (peakPasses : Bool) (d : Decision) : List Nat :=
  let x := d.plant.ch c
  let chain := d.plant.prerequisites 32 c
  d.plant.sheddingOrder.filter (fun v =>
    let y := d.plant.ch v
    decide (y.state = .running) && !y.minOnExpired && decide (classOf w x.defn.priority < classOf w y.defn.priority) &&
    !chain.contains v && (peakPasses || decide (y.defn.group = x.defn.group)))

/-- The current the victims taken free for the ceiling test: counted current less after-run current (R78; log 23). -/
def Plant.freedTotal (p : Plant) (vs : List Nat) : Int :=
  (vs.map (fun v => ((p.ch v).counted : Int) - (p.ch v).defn.afterRunCurrent)).sum

/-- The current the victims taken free in a share group (R78). -/
def Plant.freedLoad (p : Plant) (g : Nat) (vs : List Nat) : Int :=
  (vs.map (fun v => if (p.ch v).defn.group = g then ((p.ch v).counted : Int) else 0)).sum

/-- The failing channel would fit with these victims removed (R78). -/
def Decision.fitsWithout (d : Decision) (k : Listing) (x : Channel) (vs : List Nat) : Bool :=
  d.ceilingOk (d.plant.freedTotal vs) k x && d.peakOk (d.plant.freedLoad x.defn.group vs) k x

/-- The fewest victims, taken in order, with which the failing channel would fit: `left` more may be taken after
`taken` (R78). -/
def Decision.chooseVictims (d : Decision) (k : Listing) (x : Channel) : Nat → List Nat → List Nat → Option (List Nat)
  | 0, _, _ => none
  | _ + 1, _, [] => none
  | n + 1, taken, v :: vs =>
    if d.fitsWithout k x (taken ++ [v]) then some (taken ++ [v]) else d.chooseVictims k x n (taken ++ [v]) vs

/-- A listed channel that fits (R72). -/
def Decision.fits (d : Decision) (k : Listing) (x : Channel) : Bool :=
  listingStands k x && d.plant.eligible d.alloc.threshold x && d.ceilingOk 0 k x && d.peakOk 0 k x && d.creditOk k x

/-- Stage 7 for a channel that is eligible, passes the credit test and fails another (R77, R78): displacement carried out and
the channel tested again, or refused. -/
def Decision.displace (mode : PartMode) (w : Nat) (c : Nat) (k : Listing) (d : Decision) : Decision :=
  let x := d.plant.ch c
  let vs := d.victims w c (d.peakOk 0 k x)
  match d.chooseVictims k x d.alloc.displacementsLeft [] vs with
  | some taken =>
    let d := taken.foldl (fun d v => d.release mode v) d
    let d := { d with alloc := { d.alloc with
        displacementsLeft := d.alloc.displacementsLeft - taken.length
        lastDisplacements := d.alloc.lastDisplacements + taken.length } }
    if d.fits k (d.plant.ch c) then d.grant mode true c k else d
  | none =>
    if vs = [] then d
    else { d with alloc := { d.alloc with displacementRefused := countUp 65535 d.alloc.displacementRefused } }

/-- A credit refusal counted for a group (R99). -/
def Decision.refuseCredit (g : Nat) (d : Decision) : Decision :=
  d.setGrp g { d.grp g with creditRefusals := countUp 65535 (d.grp g).creditRefusals }

/-- A peak refusal counted for a group (R99). -/
def Decision.refusePeak (g : Nat) (d : Decision) : Decision :=
  d.setGrp g { d.grp g with peakRefusals := countUp 65535 (d.grp g).peakRefusals }

/-- A channel not granted at its visit: a candidate keeps its state and a renewal is released at that moment (R74). -/
def Decision.leave (mode : PartMode) (c : Nat) (k : Listing) (d : Decision) : Decision :=
  match k with
  | .renewal => d.release mode c
  | .waiting => d
  | .stopping => d

/-- The visit of one listed channel at stage 6 (R74, R94, R99). A channel that is not eligible, or whose listing no longer
stands, is not tested; such a renewal is left to R76 (log 22). -/
def Decision.visit (mode : PartMode) (w : Nat) (e : Nat × Listing) (d : Decision) : Decision :=
  let c := e.1
  let k := e.2
  let x := d.plant.ch c
  let g := x.defn.group
  if listingStands k x && d.plant.eligible d.alloc.threshold x then
    if d.creditOk k x then
      let peak := d.peakOk 0 k x
      if d.ceilingOk 0 k x && peak then d.grant mode true c k
      else
        let d := if 0 < w then d.displace mode w c k else d
        if d.granted.contains c then d
        else (if peak then d else d.refusePeak g).leave mode c k
    else (d.refuseCredit g).leave mode c k
  else d

/-- Channels from the cursor upward, then from 0 (R74). -/
def fromCursor (cursor : Nat) (es : List (Nat × Listing)) : List (Nat × Listing) :=
  es.filter (fun e => decide (cursor ≤ e.1)) ++ es.filter (fun e => decide (e.1 < cursor))

/-- The visit of one priority level, and its cursor (R74, R75). -/
def Decision.visitLevel (mode : PartMode) (w : Nat) (level : Nat) (d : Decision) : Decision :=
  let es := d.listed.filter (fun e =>
    decide ((d.plant.ch e.1).defn.priority = level) && !d.granted.contains e.1)
  let before := d.granted.length
  let d := (fromCursor (d.alloc.cursors.get 0 level) es).foldl (fun d e => d.visit mode w e) d
  match d.granted[before]? with
  | none => d
  | some c => { d with alloc := { d.alloc with cursors := d.alloc.cursors.set level ((c + 1) % 32) } }

/-- The end of stage 6: every renewal that has not been granted is released, in channel-number order (R76). -/
def Decision.dropRenewals (mode : PartMode) (d : Decision) : Decision :=
  d.renewals.foldl (fun d c => d.release mode c) d

/-- Stage 6: the levels from 0 up to the shed threshold less 1 (R74, R76). -/
def Decision.levels (mode : PartMode) (w : Nat) (d : Decision) : Decision :=
  ((List.range (min 8 d.alloc.threshold)).foldl (fun d level => d.visitLevel mode w level) d).dropRenewals mode

/-! ## Stages 8 and 9 -/

/-- A level of a PWM channel that passes both tests of stage 8 (R79). -/
def Decision.levelOk (d : Decision) (x : Channel) (level : Nat) : Bool :=
  decide ((d.total : Int) - x.counted + x.defn.currentAt level ≤ d.alloc.ceiling) &&
  decide ((d.load x.defn.group : Int) - x.counted + x.defn.currentAt level ≤ (d.grp x.defn.group).defn.peak)

/-- The highest level from `base + n` down to `base + 1` that passes, or `base` (R79). -/
def Decision.highestLevel (d : Decision) (x : Channel) (base : Nat) : Nat → Nat
  | 0 => base
  | n + 1 => if d.levelOk x (base + (n + 1)) then base + (n + 1) else d.highestLevel x base n

/-- Stage 8 for one channel (R79). -/
def Decision.raise (c : Nat) (d : Decision) : Decision :=
  let x := d.plant.ch c
  if x.defined ∧ x.state = .running ∧ x.defn.kind = .pwm ∧ x.applied < x.target then
    { d with plant := d.plant.setCh c { x with applied := d.highestLevel x x.applied (x.target - x.applied) } }
  else d

/-- Stage 8: rises in channel-number order (R79). -/
def Decision.raises (d : Decision) : Decision := (List.range 32).foldl (fun d c => d.raise c) d

/-- A channel granted in this decision whose prerequisite is not RUNNING (R80 step 1). -/
def Decision.orphaned (d : Decision) (c : Nat) : Bool :=
  d.granted.contains c &&
  (match (d.plant.ch c).defn.prerequisite with
   | none => false
   | some q => !((d.plant.ch q).defined && decide ((d.plant.ch q).state = .running)))

/-- Stage 9 (R80). -/
def Decision.close (mode : PartMode) (d : Decision) : Decision :=
  let d := (List.range 32).foldl (fun d c => if d.orphaned c then d.release mode c else d) d
  { d with plant := d.plant.shed mode d.alloc.ceiling 33 }

/-- The slot decision's stages 1 to 9 (R66). The slot timer starts again at its period. -/
def Decision.make (mode : PartMode) (w : Nat) (alloc : Allocator) (plant : Plant) : Decision :=
  let a : Allocator :=
    { alloc with displacementsLeft := 2, lastGrants := 0, lastReleases := 0, lastDisplacements := 0,
                 slotTimer := some slotPeriod, groups := alloc.groups.map ShareGroup.refilled }
  let d : Decision := { alloc := a.advanceRota, plant := plant }
  let d := ((d.chargeHeld.makeLists.rotaGrant mode).levels mode w).raises.close mode
  { d with alloc := { d.alloc with lastReleases := d.plant.released } }

/-! ## Prompt grants (R112, R113) -/

/-- The credit floor test (R96). -/
def Decision.floorOk (d : Decision) (x : Channel) : Bool :=
  decide (-((d.grp x.defn.group).defn.capacity : Int) ≤ (d.grp x.defn.group).credit - x.defn.surge)

/-- The prompt grants at an opening: what the allocator and the channels became, and the two numbers of the reply. -/
structure PromptGrants where
  decision : Decision
  granted : Nat := 0
  notGranted : Nat := 0
deriving DecidableEq, Repr

/-- The test of one prompt channel (R112), and its refusal counts (R113). DESIGN CHOICE (log 47): the ceiling test counts the surge
current alone, though a channel with start time 0 is counted at its running current after the grant. -/
def PromptGrants.offer (mode : PartMode) (c : Nat) (g : PromptGrants) : PromptGrants :=
  let d := g.decision
  let x := d.plant.ch c
  if x.active then g
  else if x.defined && decide (x.state = .waiting) && d.plant.eligible d.alloc.threshold x then
    let ceiling := d.ceilingOk 0 .waiting x
    let peak := d.peakOk 0 .waiting x
    let floor := d.floorOk x
    if ceiling && peak && floor then
      let d := d.setGrp x.defn.group
        { d.grp x.defn.group with credit := (d.grp x.defn.group).credit - x.defn.surge }
      { g with decision := { d with plant := d.plant.grant mode c }, granted := g.granted + 1 }
    else
      let d := if floor = false then d.refuseCredit x.defn.group
        else if peak = false then d.refusePeak x.defn.group else d
      { g with decision := d, notGranted := g.notGranted + 1 }
  else { g with notGranted := g.notGranted + 1 }

/-- The entries of the prompt table that name a door group, by number (R112). -/
def Allocator.entriesOf (a : Allocator) (g : Nat) : List Nat :=
  a.prompts.indices (fun e => match e.defn with | none => false | some p => decide (p.doorGroup = g))

/-- The channels those entries name, in entry-number order. -/
def Allocator.promptChannels (a : Allocator) (g : Nat) : List Nat :=
  (a.entriesOf g).filterMap (fun e => (a.prompts.get {} e).defn.map PromptDef.channel)

end Sys2Proof.Machine
end

