-- ==== Sys2Proof/Machine/SelectorOps.lean ====
section
/-! DEFINITION. The input selector's operations (chapter 7): lending and returning pool points, a selection, and the three passes at a
sweep completion. They act on a Passes: the selector's tables with the notices they produce, reading the sample table. -/

namespace Sys2Proof.Machine

/-- The selector's tables during one event, and the notices produced so far, oldest first. -/
structure Passes where
  sel : Selector
  produced : List Notice := []
deriving DecidableEq, Repr

def Passes.input (p : Passes) (i : Nat) : LogicalInput := p.sel.inputs.get1 {} i

def Passes.setInput (p : Passes) (i : Nat) (x : LogicalInput) : Passes :=
  { p with sel := { p.sel with inputs := p.sel.inputs.set1 i x } }

def Passes.notice (p : Passes) (n : Notice) : Passes := { p with produced := p.produced ++ [n] }

/-- A pool index put on a free list at the place its order gives it (R139). -/
def insertAscending (k : Nat) : List Nat → List Nat
  | [] => [k]
  | a :: as => if k < a then k :: a :: as else if k = a then a :: as else a :: insertAscending k as

/-- The pool point an input holds returns to the free list (R139). -/
def Selector.returnPoint (x : LogicalInput) (s : Selector) : Selector :=
  match x.source with
  | .pool k => { s with freeList := insertAscending k s.freeList }
  | .primary => s
  | .alternate1 => s
  | .alternate2 => s
  | .none => s

/-- An input leaves the candidate list; those behind it close up (R140). -/
def Selector.leaveCandidates (i : Nat) (s : Selector) : Selector :=
  { s with candidates := s.candidates.filter (fun c => !decide (c = i)) }

/-- A point is good: it exists, is of kind TEMP and has quality GOOD (R143). -/
def State.pointGood (s : State) (p : PointRef) : Bool :=
  match s.point p with
  | none => false
  | some x => decide (x.kind = .temp) && decide (x.quality = .good)

/-- The value of a point the sample table holds. -/
def State.pointValue (s : State) (p : PointRef) : Option Int := (s.point p).map Point.value

/-- The point a source names for an input (section 7.1). -/
def Selector.sourcePoint (s : Selector) (x : LogicalInput) : Option PointRef :=
  match x.source with
  | .primary => x.defn.primary
  | .alternate1 => x.defn.alternates[0]?
  | .alternate2 => x.defn.alternates[1]?
  | .pool k => s.pool[k]?
  | .none => none

/-- An optional point is good. -/
def State.goodAt (s : State) (p : Option PointRef) : Bool :=
  match p with
  | none => false
  | some q => s.pointGood q

/-- The value at an optional point. -/
def State.valueAt (s : State) (p : Option PointRef) : Option Int :=
  match p with
  | none => none
  | some q => s.pointValue q

/-- An input is evaluated at a sweep: it is defined and, for Zn, zone n is defined (R143). -/
def State.evaluated (s : State) (i : Nat) (x : LogicalInput) : Bool :=
  x.defined && (decide (i = 13) || (s.zone i).defined)

/-! ## Selection (R147) -/

/-- The first good alternate as a source. -/
def State.goodAlternate (s : State) (x : LogicalInput) : Option InputSource :=
  if s.goodAt x.defn.alternates[0]? then some .alternate1
  else if s.goodAt x.defn.alternates[1]? then some .alternate2
  else none

/-- The lowest free pool index whose point is good. -/
def State.goodPool (s : State) (sel : Selector) : Option Nat :=
  sel.freeList.find? (fun k => s.goodAt sel.pool[k]?)

/-- The source a selection finds (R147): alternates in list order, then free pool points in ascending index. -/
def State.findSource (s : State) (sel : Selector) (x : LogicalInput) : Option InputSource :=
  match s.goodAlternate x with
  | some a => some a
  | none => (s.goodPool sel).map InputSource.pool

/-- A pool index a source takes leaves the free list (R139). -/
def Selector.lend (src : InputSource) (s : Selector) : Selector :=
  match src with
  | .pool k => { s with freeList := s.freeList.filter (fun j => !decide (j = k)) }
  | .primary => s
  | .alternate1 => s
  | .alternate2 => s
  | .none => s

/-- A selection for input `i` (R147, R149). `already` says that the input is INVALID already: it then produces no second
INPUT-INVALID, and keeps its verify count where nothing is found. -/
def State.select (s : State) (i : Nat) (already : Bool) (p : Passes) : Passes :=
  let x := p.input i
  match s.findSource p.sel x with
  | some src =>
    let y := { x with state := .substituted, source := src, holding := false, verifyCount := 0 }
    let q : Passes := { p with sel := p.sel.lend src }
    let point := (q.sel.sourcePoint y).getD ⟨0, 0⟩
    (q.setInput i y).notice (.inputSubstituted i src point ((s.valueAt (some point)).getD 0))
  | none =>
    if already then p.setInput i { x with state := .invalid, source := .none, holding := false }
    else
      (p.setInput i { x with state := .invalid, source := .none, holding := false, verifyCount := 0 }).notice
        (.inputInvalid i x.value)

/-! ## Pass 1: reinstatement (R144, R145) -/

/-- The primary of a candidate has counted good at this sweep (R144). -/
def State.countedGood (s : State) (sel : Selector) (x : LogicalInput) : Bool :=
  s.goodAt x.defn.primary &&
  (match x.state with
   | .substituted =>
     match s.valueAt x.defn.primary, s.valueAt (sel.sourcePoint x) with
     | some a, some b => decide ((a - b).natAbs ≤ s.settings.agreementTolerance)
     | _, _ => false
   | .invalid => true
   | .onPrimary => true)

/-- A reinstatement (R145). -/
def State.reinstate (s : State) (i : Nat) (p : Passes) : Passes :=
  let x := p.input i
  let q : Passes := { p with sel := (p.sel.returnPoint x).leaveCandidates i }
  (q.setInput i { x with state := .onPrimary, source := .primary, holding := false, badCount := 0, verifyCount := 0 }).notice
    (.inputReinstated i ((s.valueAt x.defn.primary).getD 0))

/-- One candidate at the first pass. -/
def State.verify (s : State) (i : Nat) (p : Passes) : Passes :=
  let x := p.input i
  if s.evaluated i x then
    if s.countedGood p.sel x then
      if 30 ≤ x.verifyCount + 1 then s.reinstate i p
      else p.setInput i { x with verifyCount := x.verifyCount + 1 }
    else p.setInput i { x with verifyCount := 0 }
  else p

def State.pass1 (s : State) (p : Passes) : Passes := p.sel.candidates.foldl (fun q i => s.verify i q) p

/-! ## Pass 2: source failure (R146 to R149) -/

/-- One input at the second pass. -/
def State.checkSource (s : State) (i : Nat) (p : Passes) : Passes :=
  let x := p.input i
  if s.evaluated i x then
    match x.state with
    | .onPrimary =>
      if s.goodAt x.defn.primary then p.setInput i { x with holding := false, badCount := 0 }
      else if 5 ≤ x.badCount + 1 then
        let q := p.setInput i { x with holding := true, badCount := 0, verifyCount := 0 }
        s.select i false { q with sel := { q.sel with candidates := q.sel.candidates ++ [i] } }
      else p.setInput i { x with holding := true, badCount := x.badCount + 1 }
    | .substituted =>
      if s.goodAt (p.sel.sourcePoint x) then p
      else s.select i false { p with sel := p.sel.returnPoint x }
    | .invalid => s.select i true p
  else p

/-- The inputs in input-number order, Z1 to Z12 and then OUT. -/
def inputNumbers : List Nat := [1, 2, 3, 4, 5, 6, 7, 8, 9, 10, 11, 12, 13]

def State.pass2 (s : State) (p : Passes) : Passes := inputNumbers.foldl (fun q i => s.checkSource i q) p

/-! ## Pass 3: value update (R150) -/

/-- One input at the third pass. -/
def State.valueUpdate (s : State) (sel : Selector) (i : Nat) (x : LogicalInput) : LogicalInput :=
  if s.evaluated i x then
    let src := sel.sourcePoint x
    { x with
      value := match x.state with
        | .invalid => x.value
        | .onPrimary => (s.valueAt src).getD x.value
        | .substituted => (s.valueAt src).getD x.value
      seenGood := x.seenGood || s.goodAt src }
  else x

def State.pass3 (s : State) (p : Passes) : Passes :=
  { p with sel := { p.sel with inputs := p.sel.inputs.mapIdx (fun k x => s.valueUpdate p.sel (k + 1) x) } }

/-- The three passes over the logical inputs (R143), reading the sample table of `s`. -/
def State.selectorPasses (s : State) : Passes := s.pass3 (s.pass2 (s.pass1 { sel := s.sel }))

/-! ## Restart (R155) -/

/-- The live part of a logical input after a definition or a restart (R136, R155). -/
def inputFresh (d : InputDef) : LogicalInput := { defn := d }

/-- A restart of the selector state (R155). DESIGN CHOICE (log 50): a completion already handed on is taken with the restarted
inputs. -/
def Selector.restarted (s : Selector) : Selector :=
  { s with
    inputs := s.inputs.map (fun x => inputFresh x.defn)
    handed := s.inputs.map (fun x => inputFresh x.defn)
    candidates := []
    freeList := List.range s.pool.length }

end Sys2Proof.Machine
end

