-- ==== Sys2Proof/Machine/Validate.lean ====
section
/-! DEFINITION. Validation (R168): the nine steps over the working configuration, in order, and the first failure. -/

namespace Sys2Proof.Machine

/-- The first failure in a list of checks, in order. -/
def firstFault : List (Option ConfigFault) → Option ConfigFault
  | [] => none
  | some f :: _ => some f
  | none :: rest => firstFault rest

/-- A check that fails names its record. -/
def faultIf (fails : Bool) (kind index : Nat) (reason : Reason) : Option ConfigFault :=
  if fails then some ⟨kind, index, reason⟩ else none

/-- A point is a TEMP point of a defined station (R141). -/
def State.tempPoint (s : State) (p : PointRef) : Bool := decide (s.listedKind p = some .temp)

/-- Step 1: presence (R168). -/
def State.checkPresence (s : State) : List (Option ConfigFault) :=
  [faultIf (!s.zones.rows.any Zone.defined) 0x02 0 .noZone,
   faultIf (!s.chan.channels.rows.any Channel.defined) 0x03 0 .noChannel]

/-- Step 2, one zone (R3). -/
def State.checkZone (s : State) (n : Nat) (z : Zone) : Option ConfigFault :=
  faultIf (z.defined && (match z.defn.panel with | none => false | some p => !decide (s.listedKind p = some .nudge)))
    0x02 n .panelPoint

/-- The ambient window is too narrow (R28). -/
def ChannelDef.narrow (d : ChannelDef) : Bool :=
  match d.ambientLow, d.ambientHigh with
  | some lo, some hi => decide (hi < lo + 20)
  | _, _ => false

/-- The number of links reached along the chain of prerequisites from channel `c`, at most `fuel`. -/
def State.links (s : State) : Nat → Nat → Nat
  | 0, _ => 0
  | k + 1, c =>
    match (s.channel c).defn.prerequisite with
    | none => 0
    | some q => s.links k q + 1

/-- Step 3, one channel, its checks in order (R28). -/
def State.checkChannel (s : State) (c : Nat) (x : Channel) : List (Option ConfigFault) :=
  if x.defined then
    [faultIf (x.defn.served.any (fun z => !(s.zone z).defined)) 0x03 c .servedZone,
     faultIf (decide (x.defn.tOn ≤ x.defn.tOff)) 0x03 c .thresholds,
     faultIf x.defn.narrow 0x03 c .ambientWindow,
     faultIf (match x.defn.prerequisite with | none => false | some q => !(s.channel q).defined) 0x03 c .prerequisite,
     faultIf (decide (s.links 4 c = 4)) 0x03 c .prerequisiteChain,
     faultIf (x.defn.exercise && decide (2 ≤ (s.plant.flagged.filter (fun d => decide (d < c))).length)) 0x03 c
       .exerciseCount]
  else []

/-- Step 4, one share group that a defined channel names (R89). -/
def State.checkGroup (s : State) (g : Nat) (x : ShareGroup) : List (Option ConfigFault) :=
  let members := s.chan.channels.rows.filter (fun y => y.defined && decide (y.defn.group = g))
  if members.isEmpty then []
  else
    [faultIf (members.any (fun y => decide (x.defn.peak < y.defn.startFigure))) 0x04 g .peakBelowStart,
     faultIf (decide (0 < x.defn.peak) && decide (x.defn.refill = 0)) 0x04 g .noRefill]

/-- Step 5, one rota position (R85). -/
def State.checkRota (s : State) (k : Nat) (e : Option Nat) : Option ConfigFault :=
  faultIf (decide (k < s.alloc.rotaLength) && (match e with | none => false | some c => !(s.channel c).defined)) 0x05 k
    .rotaEntry

/-- Step 6, one prompt entry (R110). -/
def State.checkPrompt (s : State) (k : Nat) (e : PromptEntry) : Option ConfigFault :=
  faultIf (match e.defn with | none => false | some d => !(s.channel d.channel).defined) 0x06 k .promptChannel

/-- Step 7, one station (R120). -/
def State.checkStation (s : State) (i : Nat) (x : Station) : List (Option ConfigFault) :=
  let below := (s.line.stations.rows.take i).filter Station.defined
  if x.defined then
    [faultIf (below.any (fun y => decide (y.defn.address = x.defn.address))) 0x07 i .duplicateAddress,
     faultIf (!decide (x.defn.policy = .none) &&
       (match x.defn.panelZone with | none => true | some z => !(s.zone z).defined)) 0x07 i .panelZone,
     faultIf (decide (64 < (below.map (fun y => y.defn.kinds.length)).sum + x.defn.kinds.length)) 0x07 i .pointTotal]
  else []

/-- An alternate repeats the primary, or both alternates name one point (R141). -/
def InputDef.repeats (d : InputDef) : Bool :=
  d.alternates.any (fun a => decide (d.primary = some a)) ||
  (match d.alternates with
   | a :: b :: _ => decide (a = b)
   | _ => false)

/-- Step 8, one logical input (R141). -/
def State.checkInput (s : State) (i : Nat) (x : LogicalInput) : List (Option ConfigFault) :=
  [faultIf (decide (i ≤ 12) && (s.zone i).defined && !x.defined) 0x08 i .noInput,
   faultIf (match x.defn.primary with | none => false | some p => !s.tempPoint p) 0x08 i .primaryPoint,
   faultIf (x.defn.alternates.any (fun a => !s.tempPoint a)) 0x08 i .alternatePoint,
   faultIf x.defn.repeats 0x08 i .alternateRepeat]

/-- A defined logical input names the point (R142). -/
def LogicalInput.names (p : PointRef) (x : LogicalInput) : Bool :=
  x.defined && (decide (x.defn.primary = some p) || x.defn.alternates.contains p)

/-- Step 9, one pool entry (R142). -/
def State.checkPool (s : State) (k : Nat) (p : PointRef) : List (Option ConfigFault) :=
  [faultIf (!s.tempPoint p) 0x09 k .poolPoint,
   faultIf ((s.sel.pool.take k).contains p) 0x09 k .poolRepeat,
   faultIf (s.sel.inputs.rows.any (LogicalInput.names p)) 0x09 k .poolOverlap]

/-- Every check of the validation, in step order and within a step in the order of its rule (R168). -/
def State.validationChecks (s : State) : List (Option ConfigFault) :=
  s.checkPresence ++
  mapFrom s.checkZone 1 s.zones.rows ++
  (mapFrom s.checkChannel 0 s.chan.channels.rows).flatten ++
  (mapFrom s.checkGroup 0 s.alloc.groups.rows).flatten ++
  mapFrom s.checkRota 0 s.alloc.rota.rows ++
  mapFrom s.checkPrompt 0 s.alloc.prompts.rows ++
  (mapFrom s.checkStation 0 s.line.stations.rows).flatten ++
  (mapFrom s.checkInput 1 s.sel.inputs.rows).flatten ++
  (mapFrom s.checkPool 0 s.sel.pool).flatten

/-- The validation: the first failure, or none (R168). -/
def State.validate (s : State) : Option ConfigFault := firstFault s.validationChecks

/-- The last validation a validation sets (R166, R168). -/
def Validation.ofFault : Option ConfigFault → Validation
  | .none => .passed
  | .some f => .failed f

end Sys2Proof.Machine
end

