-- ==== Sys2Proof/Machine/ZoneOps.lean ====
section
/-! DEFINITION. The zone controller's operations (chapter 1) and the door groups' effect on zones (R15): change reports, the input
side of the hold states, the computation event, and the zone table's answer to each change of part mode. -/

namespace Sys2Proof.Machine

/-- A WRITE-POLL is outstanding to station `i` as it is now defined (R127; log 25). -/
def StationLine.writeOutstanding (l : StationLine) (i : Nat) : Bool :=
  match l.inFlight with
  | none => false
  | some w =>
    match w.poll with
    | none => false
    | some p => decide (p.station = i) && !p.disowned && !decide (p.kind = .read)

/-- A station's answer to a change of zone `z`'s effective values (R7, R127). -/
def stationAfterChange (z : Nat) (outstanding : Bool) (x : Station) : Station :=
  if x.defined ∧ x.defn.panelZone = some z then
    { x with writePending := true, changedInFlight := x.changedInFlight || outstanding }
  else x

/-- The zone controller reports a change of zone `z`'s effective values to the station line controller (R7). -/
def State.reportChange (s : State) (z : Nat) : State :=
  s.updLine (fun l => { l with stations := l.stations.mapIdx (fun i x => stationAfterChange z (l.writeOutstanding i) x) })

/-- Two zone records hold different effective values (R7). -/
def effectiveDiffers (a b : Zone) : Bool :=
  !decide (a.effectiveSetpoint = b.effectiveSetpoint) || !decide (a.effectiveMode = b.effectiveMode)

/-- Zone `n`'s record replaced, with the change reported where the defined zone's effective values changed (R7). -/
def State.putZone (s : State) (n : Nat) (z : Zone) : State :=
  if z.defined && effectiveDiffers (s.zone n) z then (s.setZone n z).reportChange n else s.setZone n z

/-- The numbers, from 1, of the defined zones whose effective values differ from an earlier table. -/
def changedZones : Nat → List Zone → List Zone → List Nat
  | k, a :: as, b :: bs =>
    if b.defined && effectiveDiffers a b then k :: changedZones (k + 1) as bs else changedZones (k + 1) as bs
  | _, _, _ => []

/-- Every zone's record replaced by `f` of its number and record, with every change reported (R7). -/
def State.mapZones (s : State) (f : Nat → Zone → Zone) : State :=
  let t := s.zones.mapIdx (fun k z => f (k + 1) z)
  (changedZones 1 s.zones.rows t.rows).foldl State.reportChange (s.updZones (fun _ => t))

/-! ## Hold states -/

/-- The zone's door group holds it: OPEN, with a door-hold limit above 0 that has not expired since the opening (R16). -/
def State.doorHoldDue (s : State) (z : Zone) : Bool :=
  match z.defn.doorGroup with
  | none => false
  | some g =>
    (s.doorGroup g).isOpen && decide (0 < s.settings.doorHoldLimit) && !(s.doorGroup g).limitExpired

/-- The input side of the hold states for one zone at a sweep completion in RUN or FALLBACK (R16). -/
def zoneAfterInput (invalid doorDue : Bool) (z : Zone) : Zone :=
  if z.defined then
    match z.hold with
    | .normal => if invalid then { z with hold := .inputHold, holdTimer := some holdTime } else z
    | .doorHold => if invalid then { z with hold := .inputHold, holdTimer := some holdTime } else z
    | .inputHold =>
      if invalid then z else { z with hold := if doorDue then .doorHold else .normal, holdTimer := none }
    | .inputDecay =>
      if invalid then z else { z with hold := if doorDue then .doorHold else .normal, holdTimer := none }
  else z

/-- The input side of the hold states for every zone (R16), on the inputs the completion was handed on with (R152). -/
def State.applyInputHolds (s : State) : State :=
  s.updZones (fun t =>
    t.mapIdx (fun k z => zoneAfterInput (s.handedInput (k + 1)).countsInvalid (s.doorHoldDue z) z))

/-- An opening's effect on one zone of the group (R15). -/
def zoneAfterOpening (g : Nat) (z : Zone) : Zone :=
  if z.defined ∧ z.defn.doorGroup = some g ∧ z.hold = .normal then { z with hold := .doorHold } else z

/-- A closing's or a limit expiry's effect on one zone of the group (R15). -/
def zoneAfterRelease (g : Nat) (z : Zone) : Zone :=
  if z.defn.doorGroup = some g ∧ z.hold = .doorHold then { z with hold := .normal } else z

/-! ## The computation event -/

/-- The nudge read for a zone (R5). -/
def State.nudgeOf (s : State) (z : Zone) : Int :=
  match z.defn.panel with
  | none => 0
  | some p =>
    match s.point p with
    | none => 0
    | some x => if x.quality = .good then x.value else 0

/-- The setpoint and mode a computation event forms a zone's effective values from (R6, R21). -/
def State.computedFrom (s : State) (z : Zone) : Int × ZoneMode :=
  match s.mode with
  | .fallback => (s.settings.fallbackSetpoint, .auto)
  | .standby => (z.commandedSetpoint, z.commandedMode)
  | .run => (z.commandedSetpoint, z.commandedMode)
  | .windDown => (z.commandedSetpoint, z.commandedMode)

/-- The full computation of R9 to R13 on a record whose effective values have been formed. -/
def computeDemand (changed : Bool) (input : Int) (z : Zone) : Zone :=
  let e := effectiveError z.effectiveSetpoint input z.defn.deadband
  let p := z.defn.kp * e
  let i := nextIntegral z.effectiveMode changed z.defn.ki p e z.integral
  { z with
    inputValue := input
    integral := i
    demand := nextDemand z.effectiveMode z.defn.rateLimit (rawDemand z.effectiveMode p i) z.demand }

/-- What a computation event does with one zone once its nudge and effective values are formed (R8, R18, R19). -/
def actOnHold (changed : Bool) (input : Int) (z : Zone) : Zone :=
  match z.hold with
  | .normal => computeDemand changed input z
  | .doorHold =>
    if changed then { z with integral := 0, demand := clampInt z.effectiveMode.lo z.effectiveMode.hi z.demand } else z
  | .inputHold =>
    if changed then { z with integral := 0, demand := clampInt z.effectiveMode.lo z.effectiveMode.hi z.demand } else z
  | .inputDecay =>
    { z with
      integral := if changed then 0 else z.integral
      demand := clampInt z.effectiveMode.lo z.effectiveMode.hi (decayed z.demand) }

/-- One zone at a computation event (R8), on the inputs the completion was handed on with (R152). -/
def State.computeZone (s : State) (n : Nat) (z : Zone) : Zone :=
  if z.defined then
    let nudge := s.nudgeOf z
    let base := s.computedFrom z
    actOnHold (!decide (base.2 = z.effectiveMode)) (s.handedInput n).value
      { z with
        nudge := nudge
        effectiveSetpoint := clampInt 160 300 (base.1 + nudgeTerm nudge z.defn.nudgeLimit)
        effectiveMode := base.2 }
  else z

/-- The demands and effective modes handed to the channel controller (R14). -/
def State.zoneUpdate (s : State) : Table ZoneDemand 12 :=
  s.zones.map (fun z => if z.defined then { demand := z.demand, mode := z.effectiveMode } else {})

/-- The computation event (R8): every defined zone treated, and the update handed over (R14). -/
def State.computationEvent (s : State) : State :=
  let t := s.mapZones s.computeZone
  t.updChan (fun c => { c with updates := c.updates ++ [t.zoneUpdate] })

/-! ## The zone table across modes -/

/-- The live part of a zone at definition, power-on and RESTART (R1, R22). -/
def zoneFresh (d : ZoneDef) : Zone :=
  { defined := true, defn := d, commandedSetpoint := d.initialSetpoint, commandedMode := d.initialMode,
    effectiveSetpoint := d.initialSetpoint, effectiveMode := d.initialMode }

/-- Entry to RUN (R23). -/
def zoneAtRunEntry (z : Zone) : Zone :=
  if z.defined then
    { z with integral := 0, demand := 0, nudge := 0, inputValue := 0, hold := .normal, holdTimer := none,
             effectiveSetpoint := z.commandedSetpoint, effectiveMode := z.commandedMode }
  else z

/-- Entry to WIND-DOWN (R24). -/
def zoneAtWindDown (z : Zone) : Zone :=
  if z.defined then { z with integral := 0, demand := 0, hold := .normal, holdTimer := none } else z

/-- Entry to STANDBY at the end of a wind-down (R24). -/
def zoneAtStandby (z : Zone) : Zone :=
  if z.defined then { z with effectiveSetpoint := z.commandedSetpoint, effectiveMode := z.commandedMode } else z

/-- Entry to FALLBACK (R20). -/
def zoneAtFallback (z : Zone) : Zone :=
  if z.defined then { z with integral := 0, hold := if z.hold = .doorHold then .normal else z.hold } else z

end Sys2Proof.Machine
end

