-- ==== Sys2Proof/Machine/ModeOps.lean ====
section
/-! DEFINITION. The mode controller's transitions (chapter 9): entry to RUN, WIND-DOWN and its end, FALLBACK entry, with each block's
answer to them, and the auto-start rule. The return from FALLBACK stands in Ops.lean. -/

namespace Sys2Proof.Machine

/-- A group's credit at an entry to RUN, at a restart and at a GROUP-DEF (R88, R90, R91). -/
def ShareGroup.fullCredit (x : ShareGroup) : ShareGroup := { x with credit := x.defn.capacity }

/-- The allocator's answer to the entry to RUN (R58, R91). -/
def Allocator.atRunEntry (a : Allocator) : Allocator :=
  { a with
    cursors := Table.fill 8 0, rotaPosition := 0, firstSlot := true, stalenessTimer := some stalenessTime,
    slotTimer := some slotPeriod, lastGrants := 0, lastReleases := 0, lastDisplacements := 0,
    groups := a.groups.map ShareGroup.fullCredit }

/-- The channel controller's answer to the entry to RUN: exercise requests before combined requests (R54, R159). -/
def Plant.atRunEntry (p : Plant) : Plant :=
  ((p.mapCh (fun _ x => channelAtRunEntry x)).formExercises).reform .run

/-- The link silence timer started at the full setting (R177). -/
def State.startSilence (s : State) : State :=
  s.updLink (fun l => { l with silenceTimer := some (seconds s.settings.linkSilence) })

/-- The entry to RUN (R169). DESIGN CHOICE (log 24): a demand update that still waits is kept. -/
def State.entryToRun (s : State) : State :=
  ((((s.updCtl (fun m => { m with mode := .run, supplyStale := false })).mapZones (fun _ z => zoneAtRunEntry z)).updSel
      Selector.restarted).onPlant Plant.atRunEntry).updAlloc Allocator.atRunEntry |>.startSilence

/-- A validation and, on a pass, the entry to RUN (R167, R171). -/
def State.tryRun (s : State) : State :=
  let t := s.updCtl (fun m => { m with lastValidation := .ofFault s.validate })
  match s.validate with
  | none => t.entryToRun
  | some _ => t

/-- Every door group closed and every run-on timer stopped (R115 steps 1 and 2). -/
def State.closeDoors (s : State) : State :=
  (s.updDoors (fun t => t.map (fun _ => {}))).updAlloc (fun a =>
    { a with prompts := a.prompts.map (fun e => { e with runOnTimer := none }) })

/-- The channel controller's answer to the entry to WIND-DOWN (R55, R115): every combined request false, WAITING channels to
IDLE, and the STARTING and RUNNING channels released in channel-number order. -/
def Plant.atWindDown (p : Plant) : Plant :=
  let q := p.endPrompts.formRequests .windDown
  q.releaseEach .windDown (q.chan.channels.indices Channel.active)

/-- The entry to WIND-DOWN (R173). DESIGN CHOICE (log 24): a demand update that still waits is kept. -/
def State.windDownEntry (s : State) : State :=
  (((((s.updCtl (fun m => { m with mode := .windDown })).mapZones (fun _ z => zoneAtWindDown z)).closeDoors).onPlant
      Plant.atWindDown).updAlloc (fun a => { a with slotTimer := none, stalenessTimer := none })).updLink
    (fun l => { l with silenceTimer := none })

/-- The end of a wind-down (R174). -/
def State.windDownEnd (s : State) : State :=
  (((s.updCtl (fun m => { m with mode := .standby })).mapZones (fun _ z => zoneAtStandby z))).notify
    (.windDownDone (s.plant.countIn .lockout) (s.plant.countIn .faulted) (s.plant.countIn .latched))

/-- The wind-down is complete when no channel is STARTING, RUNNING or STOPPING (R174). -/
def State.windDownCheck (s : State) : State :=
  match s.mode with
  | .windDown => if s.plant.drawingCount = 0 then s.windDownEnd else s
  | .standby => s
  | .run => s
  | .fallback => s

/-- A channel that may have been the last to draw has left its state: the wind-down's end, unless a RESTART has been taken, which
abandons the wind-down (R180; log 44). -/
def State.lastChannelCheck (s : State) : State := if s.link.restarting then s else s.windDownCheck

/-- The safe values in force (R61, R62, R63). -/
def State.applySafe (s : State) : State :=
  s.updAlloc (fun a =>
    { a with ceiling := s.settings.safeCeiling, threshold := s.settings.safeThreshold, source := .safe })

/-- The forced release against the values in force (R64). -/
def State.forcedRelease (s : State) : State :=
  s.onPlant (fun p => p.forcedRelease s.mode s.alloc.ceiling s.alloc.threshold)

/-- The entry to FALLBACK (R178). -/
def State.fallbackEntry (s : State) : State :=
  let s := (s.updCtl (fun m => { m with mode := .fallback, fallbackFlag := true, fallbackTime := 0 })).notify
    (.fallbackEntered s.settings.safeCeiling s.settings.safeThreshold)
  let s := ((s.mapZones (fun _ z => zoneAtFallback z)).closeDoors).onPlant (fun p => p.endPrompts.reform .fallback)
  let s := (s.updAlloc (fun a => { a with stalenessTimer := none })).updLink (fun l => { l with silenceTimer := none })
  s.applySafe.forcedRelease

end Sys2Proof.Machine
end

