-- ==== Sys2Proof/Machine/AllocEvents.lean ====
section
/-! DEFINITION. The allocator's and the mode controller's timed events (R61, R66, R178). -/

namespace Sys2Proof.Machine

/-- A slot decision carried into the part (R66). -/
def State.decideSlot (s : State) : State :=
  let d := Decision.make s.mode s.settings.preemptionWidth s.alloc s.plant
  (s.withPlant d.plant).updAlloc (fun _ => d.alloc)

/-- A slot timer expiry: a decision in RUN and FALLBACK while the timer runs (R66). -/
def State.slot (s : State) : State :=
  match s.mode, s.alloc.slotTimer with
  | .run, some _ => s.decideSlot
  | .fallback, some _ => s.decideSlot
  | .run, none => s
  | .fallback, none => s
  | .standby, _ => s
  | .windDown, _ => s

/-- SLOT_DECISION (R66). -/
def execSlotDecision (s : State) : Host.Outcome State Fault Refusal := .next (s.event State.slot)

/-- The supply staleness timer expires: the stale flag, the safe values and the forced release (R61). -/
def State.staleness (s : State) : State :=
  match s.alloc.stalenessTimer with
  | none => s
  | some _ =>
    (((s.updCtl (fun m => { m with supplyStale := true })).updAlloc (fun a =>
      { a with stalenessTimer := none })).applySafe).forcedRelease

/-- SUPPLY_STALENESS_EXPIRY (R61). -/
def execSupplyStalenessExpiry (s : State) : Host.Outcome State Fault Refusal := .next (s.event State.staleness)

/-- The link silence timer expires in RUN: FALLBACK is entered (R178). -/
def State.silence (s : State) : State :=
  match s.mode, s.link.silenceTimer with
  | .run, some _ => s.fallbackEntry
  | .run, none => s
  | .standby, _ => s
  | .windDown, _ => s
  | .fallback, _ => s

/-- LINK_SILENCE_EXPIRY (R178). -/
def execLinkSilenceExpiry (s : State) : Host.Outcome State Fault Refusal := .next (s.event State.silence)

end Sys2Proof.Machine
end

