-- ==== Sys2Proof/Machine/LineOps.lean ====
section
/-! DEFINITION. The station line controller's operations (chapter 6): polls and their bytes, the judging of a reply, outcomes, the
steps of a sweep, its completion, and the taking of that completion by the three blocks. -/

namespace Sys2Proof.Machine

/-! ## Polls (R116, R117) -/

/-- The characters of the outstanding poll, from its address to its check (section 6.1, R197). -/
def Poll.bytes (p : Poll) : List Byte :=
  let fields := match p.kind with
    | .read => u8 p.address ++ u8 1
    | .write setpoint mode => u8 p.address ++ u8 3 ++ i16 setpoint ++ u8 (zoneModeCode mode)
  fields ++ u16 (crc fields).toNat

/-- The reply's check is correct: the last two characters carry the check over all before them (R116, R197). -/
def replyCheckOk (reply : List Byte) : Bool :=
  decide (2 ≤ reply.length) &&
  decide (reply.drop (reply.length - 2) = u16 (crc (reply.take (reply.length - 2))).toNat)

/-- A READ-REPLY to a poll of `address` with `points` points that is good (R116). -/
def readReplyGood (address points : Nat) (reply : List Byte) : Bool :=
  match reply with
  | a :: k :: n :: _ =>
    replyCheckOk reply && decide (a.toNat = address) && decide (k.toNat = 2) &&
    decide (reply.length = 5 + 2 * n.toNat) && decide (points ≤ n.toNat)
  | _ => false

/-- A WRITE-ACK to a poll of `address` that is good (R116). -/
def writeAckGood (address : Nat) (reply : List Byte) : Bool :=
  match reply with
  | a :: k :: _ =>
    replyCheckOk reply && decide (a.toNat = address) && decide (k.toNat = 4) && decide (reply.length = 4)
  | _ => false

/-- A reply whose end has come is good for the outstanding poll (R116). -/
def Poll.good (p : Poll) (reply : List Byte) : Bool :=
  match p.kind with
  | .read => readReplyGood p.address p.points reply
  | .write _ _ => writeAckGood p.address reply

/-- The two-byte signed values of a list of characters, in order. -/
def signedValues : List Byte → List Int
  | hi :: lo :: rest => signed hi lo :: signedValues rest
  | _ => []

/-- The values a READ-REPLY carries, in point-number order. -/
def replyValues (reply : List Byte) : List Int := signedValues ((reply.drop 3).take (reply.length - 5))

/-- What one attempt of a poll comes to (R116). -/
inductive Attempt where
  | good (values : List Int)
  | noReply
  | bad
deriving DecidableEq, Repr

/-- The attempt whose reply has ended. -/
def Poll.judge (p : Poll) (reply : List Byte) : Attempt :=
  if p.good reply then .good (match p.kind with | .read => replyValues reply | .write _ _ => []) else .bad

/-! ## Outcomes (R123 to R128) -/

/-- A value lies within the valid range of a kind (R123). -/
def PointKind.valid (k : PointKind) (v : Int) : Bool :=
  match k with
  | .temp => withinInt (-400) 850 v
  | .nudge => withinInt (-4) 4 v

/-- A point of a station whose read poll ended REPLIED (R123). -/
def Point.replied (v : Int) (x : Point) : Point :=
  if x.kind.valid v then { x with value := v, quality := .good, goodCount := countUp 255 x.goodCount, badCount := 0 }
  else { x with quality := .outOfRange, badCount := countUp 255 x.badCount, goodCount := 0 }

/-- A point of a station whose read poll failed (R124). -/
def Point.missed (x : Point) : Point :=
  { x with quality := .missing, badCount := countUp 255 x.badCount, goodCount := 0 }

/-- Points with the reply's values at their numbers; values beyond the list are ignored (R116). -/
def pointsReplied : List Int → List Point → List Point
  | v :: vs, x :: xs => x.replied v :: pointsReplied vs xs
  | [], xs => xs
  | _ :: _, [] => []

/-- A station whose read poll ended REPLIED (R123, R125). -/
def Station.readReplied (values : List Int) (x : Station) : Station :=
  { x with missCount := 0, present := true, lastRead := .replied, points := pointsReplied values x.points }

/-- A station whose read poll ended NO-REPLY or CHECK-FAIL: ABSENT from a miss count of 3 on (R124, R125). -/
def Station.readFailed (outcome : PollOutcome) (x : Station) : Station :=
  let misses := countUp 255 x.missCount
  { x with missCount := misses, present := x.present && decide (misses < 3), lastRead := outcome,
           points := x.points.map Point.missed }

/-- A station whose write poll ended REPLIED: write-pending is cleared unless the zone changed in flight (R127, R128). -/
def Station.writeReplied (x : Station) : Station :=
  { x with lastWrite := .replied, writePending := x.writePending && x.changedInFlight, changedInFlight := false }

/-- A station whose write poll ended NO-REPLY or CHECK-FAIL (R127, R128). -/
def Station.writeFailed (outcome : PollOutcome) (x : Station) : Station :=
  { x with lastWrite := outcome, writeFailures := countUp 65535 x.writeFailures, changedInFlight := false }

/-- The panel zone a write poll to this station is due for (R126). -/
def State.writeDue (s : State) (x : Station) : Option Nat :=
  match x.defn.panelZone with
  | none => none
  | some z =>
    if (s.zone z).defined then
      match x.defn.policy with
      | .none => none
      | .everySweep => some z
      | .onChange => if x.writePending then some z else none
    else none

/-! ## The steps of a sweep (R122) -/

/-- The defined and enabled station of lowest index above the last one handled (R122). -/
def nextStation (stations : Table Station 16) (last : Option Nat) : Option Nat :=
  (stations.indices (fun x => x.defined && x.defn.enabled)).find? (fun i =>
    match last with
    | none => true
    | some l => decide (l < i))

/-- The sweep in flight replaced. -/
def State.setSweep (s : State) (w : Option Sweep) : State := s.updLine (fun l => { l with inFlight := w })

/-- The sweep is complete: its figures are recorded and the completion goes to the input selector (R129). -/
def State.completeSweep (s : State) (w : Sweep) : State :=
  s.updLine (fun l =>
    { l with inFlight := some { w with poll := none, stage := .selector }, lastSweep := { w.figures with kind := some w.kind } })

/-- The sweep takes its next step: a read poll to the next station, or its completion (R122). -/
def State.sweepStep (s : State) (w : Sweep) : State :=
  match nextStation s.line.stations w.last with
  | none => s.completeSweep w
  | some i =>
    s.setSweep (some
      { w with
        last := some i
        poll := some { station := i, kind := .read, address := (s.station i).defn.address,
                       points := (s.station i).defn.kinds.length }
        figures := { w.figures with readPolled := w.figures.readPolled + 1 } })

/-- A sweep starts (R121, R130). -/
def State.startSweep (s : State) (kind : SweepKind) (tag : Option Nat) : State :=
  s.sweepStep { kind := kind, tag := tag }

/-- A write poll made to the station last read (R126). -/
def State.sendWrite (s : State) (w : Sweep) (i z : Nat) : State :=
  s.setSweep (some
    { w with
      poll := some { station := i, kind := .write (s.zone z).effectiveSetpoint (s.zone z).effectiveMode,
                     address := (s.station i).defn.address, points := 0 }
      figures := { w.figures with writes := w.figures.writes + 1 } })

/-- The outcome of a poll's second attempt that is not good (R117). -/
def Attempt.failure : Attempt → PollOutcome
  | .good _ => .replied
  | .noReply => .noReply
  | .bad => .checkFail

/-- A read poll has ended (R123, R124), and the sweep goes on with a panel write that is due or with its next step. -/
def State.endRead (s : State) (w : Sweep) (p : Poll) (a : Attempt) : State :=
  match a with
  | .good values =>
    let t := s.setStation p.station ((s.station p.station).readReplied values)
    let v := { w with poll := none, figures := { w.figures with replied := w.figures.replied + 1 } }
    match t.writeDue (t.station p.station) with
    | some z => t.sendWrite v p.station z
    | none => t.sweepStep v
  | .noReply =>
    (s.setStation p.station ((s.station p.station).readFailed a.failure)).sweepStep { w with poll := none }
  | .bad =>
    (s.setStation p.station ((s.station p.station).readFailed a.failure)).sweepStep { w with poll := none }

/-- A write poll has ended (R127, R128), and the sweep takes its next step. -/
def State.endWrite (s : State) (w : Sweep) (p : Poll) (a : Attempt) : State :=
  match a with
  | .good _ =>
    (s.setStation p.station (s.station p.station).writeReplied).sweepStep
      { w with poll := none, figures := { w.figures with writesReplied := w.figures.writesReplied + 1 } }
  | .noReply =>
    (s.setStation p.station ((s.station p.station).writeFailed a.failure)).sweepStep { w with poll := none }
  | .bad =>
    (s.setStation p.station ((s.station p.station).writeFailed a.failure)).sweepStep { w with poll := none }

/-- A poll has ended. The outcome of a poll that a STATION-DEF has disowned is not acted on (R131). -/
def State.endPoll (s : State) (w : Sweep) (p : Poll) (a : Attempt) : State :=
  if p.disowned then s.sweepStep { w with poll := none }
  else
    match p.kind with
    | .read => s.endRead w p a
    | .write _ _ => s.endWrite w p a

/-- An attempt has ended: a first attempt that is not good is followed at once by the second (R117). -/
def State.endAttempt (s : State) (w : Sweep) (p : Poll) (a : Attempt) : State :=
  match a with
  | .good _ => s.endPoll w p a
  | .noReply => if p.second then s.endPoll w p a else s.setSweep (some { w with poll := some { p with second := true, window := 20 } })
  | .bad => if p.second then s.endPoll w p a else s.setSweep (some { w with poll := some { p with second := true, window := 20 } })

/-- An attempt's end at the outstanding poll; nothing where no poll is outstanding (R116). -/
def State.atPoll (s : State) (attempt : Poll → Attempt) : State :=
  match s.line.inFlight with
  | none => s
  | some w =>
    match w.poll with
    | none => s
    | some p => s.endAttempt w p (attempt p)

/-- A STATION-DEF disowns the poll outstanding to its station (R131). -/
def StationLine.disown (i : Nat) (l : StationLine) : StationLine :=
  { l with inFlight := l.inFlight.map (fun w =>
      { w with poll := w.poll.map (fun p => if p.station = i then { p with disowned := true } else p) }) }

/-! ## The taking of a completion (R129, R130) -/

/-- The sweep-in-flight flag is cleared once the last of the three blocks has taken the completion, and the SWEEP-NOW that
waited for it is answered DONE with its figures (R129, R130). -/
def State.completionTaken (s : State) (w : Sweep) (zoneTaken ambientTaken : Bool) : State :=
  if zoneTaken && ambientTaken then
    match w.tag with
    | none => s.setSweep none
    | some tag => (s.setSweep none).reply 0x14 tag .done (.sweep { w.figures with kind := some w.kind })
  else s.setSweep (some { w with stage := .handedOn zoneTaken ambientTaken })

/-- The live part and points of a station at its definition, power-on and RESTART (R118, R133). -/
def stationFresh (d : StationDef) : Station :=
  { defined := true, defn := d, points := d.kinds.map (fun k => { kind := k }) }

/-- The number of points of all defined stations with station `i` counted at `n` points (R118). -/
def pointTotal (stations : Table Station 16) (i n : Nat) : Nat :=
  ((mapFrom (fun k x => if k = i then 0 else if x.defined then x.defn.kinds.length else 0) 0 stations.rows).sum) + n

end Sys2Proof.Machine
end

