-- ==== Sys2Proof/Machine/LiveRequests.lean ====
section
/-! DEFINITION. The live requests (R4, R50, R59, R60, R104 to R113, R130): what the owning block does at the taking of each, and
the command that brings it. -/

namespace Sys2Proof.Machine

/-! ## ZONE-SETPOINT -/

/-- A zone after a ZONE-SETPOINT: in STANDBY the effective values follow at once (R4, R6). -/
def zoneCommanded (standby : Bool) (setpoint : Int) (mode : ZoneMode) (z : Zone) : Zone :=
  let y := { z with commandedSetpoint := setpoint, commandedMode := mode }
  if standby then { y with effectiveSetpoint := setpoint, effectiveMode := mode } else y

/-- The body of a ZONE-SETPOINT that the part mode lets be taken (R4). DESIGN CHOICE (log 45): a CLAMPED reply carries the result
code alone. -/
def State.commandZone (s : State) (tag zone : Nat) (setpoint : Int) (mode : Nat) : State :=
  s.onItem 0x10 tag (within 1 12 zone) (s.zone zone).defined fun s =>
    match zoneModeOf mode with
    | none => s.badField 0x10 tag 3
    | some m =>
      let v := clampInt 160 300 setpoint
      (s.putZone zone (zoneCommanded (decide (s.mode = .standby)) v m (s.zone zone))).reply 0x10 tag
        (if v = setpoint then .done else .clamped) .nothing

/-- ZONE-SETPOINT (R4). -/
def takeZoneSetpoint (tag zone : Nat) (setpoint : Int) (mode : Nat) (s : State) : State :=
  match s.mode with
  | .standby => s.commandZone tag zone setpoint mode
  | .run => s.commandZone tag zone setpoint mode
  | .fallback => s.commandZone tag zone setpoint mode
  | .windDown => s.wrongMode 0x10 tag

/-- ZONE_SETPOINT (R4). -/
def execZoneSetpoint (tag zone : Nat) (setpoint : Int) (mode : Nat) (s : State) : Host.Outcome State Fault Refusal :=
  .next (s.submit (.zoneSetpoint tag zone setpoint mode) (takeZoneSetpoint tag zone setpoint mode))

/-! ## SUPPLY -/

/-- The values in force after a SUPPLY, and the stale flag cleared (R59). -/
def State.setSupply (s : State) (ceiling threshold : Nat) : State :=
  (s.updAlloc (fun a => { a with ceiling := min 4000 ceiling, threshold := min 8 threshold, source := .supply })).updCtl
    (fun m => { m with supplyStale := false })

/-- What follows a SUPPLY in RUN: the staleness timer restarts and the forced release is performed (R60). -/
def State.afterSupply (s : State) : State :=
  match s.mode with
  | .run => (s.updAlloc (fun a => { a with stalenessTimer := some stalenessTime })).forcedRelease
  | .standby => s
  | .windDown => s
  | .fallback => s

/-- SUPPLY (R59, R60). -/
def takeSupply (tag ceiling threshold : Nat) (s : State) : State :=
  ((s.setSupply ceiling threshold).afterSupply).reply 0x11 tag
    (if ceiling ≤ 4000 ∧ threshold ≤ 8 then .done else .clamped) (.supply (min 4000 ceiling) (min 8 threshold))

/-- SUPPLY (R59). -/
def execSupply (tag ceiling threshold : Nat) (s : State) : Host.Outcome State Fault Refusal :=
  .next (s.submit (.supply tag ceiling threshold) (takeSupply tag ceiling threshold))

/-! ## DOOR -/

/-- The prompt request of each defined channel listed set to `b` (R111). -/
def Plant.setPrompts (b : Bool) (cs : List Nat) (p : Plant) : Plant :=
  cs.foldl (fun q c => if (q.ch c).defined then q.setCh c { q.ch c with prompt := b } else q) p

/-- Steps 1 and 2 of an opening, and the run-on timers of step 3 (R105, R15). -/
def State.openDoor (s : State) (g : Nat) : State :=
  let s := s.setDoor g { isOpen := true, limitTimer := timerOf s.settings.doorHoldLimit, limitExpired := false }
  let s := if 0 < s.settings.doorHoldLimit then s.updZones (fun t => t.map (zoneAfterOpening g)) else s
  s.updAlloc (fun a =>
    { a with prompts := a.prompts.map (fun e =>
        if e.defn.map PromptDef.doorGroup = some g then { e with runOnTimer := none } else e) })

/-- Steps 3 and 4 of an opening: the prompt requests true, and a prompt grant offered to each prompt channel in prompt table
order (R105, R112). -/
def State.promptGrants (s : State) (g : Nat) : PromptGrants :=
  let cs := s.alloc.promptChannels g
  cs.foldl (fun r c => r.offer s.mode c)
    { decision := { alloc := s.alloc, plant := (s.plant.setPrompts true cs).reform s.mode } }

/-- An opening (R105), with its reply (R104). -/
def State.opening (s : State) (tag g : Nat) : State :=
  let s := s.openDoor g
  let r := s.promptGrants g
  ((s.withPlant r.decision.plant).updAlloc (fun _ => r.decision.alloc)).reply 0x12 tag .done
    (.door g true r.granted r.notGranted)

/-- The entries of a group at its closing: their run-on timers start, but for a run-on of 0 (R107). -/
def entryAtClosing (g : Nat) (e : PromptEntry) : PromptEntry :=
  match e.defn with
  | none => e
  | some d => if d.doorGroup = g then { e with runOnTimer := timerOf d.runOn } else e

/-- The channels whose prompt request ends at the closing itself (R107, R111). -/
def Allocator.endedAtClosing (a : Allocator) (g : Nat) : List Nat :=
  (a.entriesOf g).filterMap (fun k =>
    match (a.prompts.get {} k).defn with
    | none => none
    | some d => if d.runOn = 0 then some d.channel else none)

/-- A closing (R107). -/
def State.closing (s : State) (g : Nat) : State :=
  let s := ((s.setDoor g {}).updZones (fun t => t.map (zoneAfterRelease g))).updAlloc (fun a =>
    { a with prompts := a.prompts.map (entryAtClosing g) })
  s.onPlant (fun p => (p.setPrompts false (s.alloc.endedAtClosing g)).reform s.mode)

/-- A DOOR that the part mode lets be taken (R104 to R107). -/
def State.door (s : State) (tag g state : Nat) : State :=
  match firstBad [(1, within 1 4 g), (2, within 0 1 state)] with
  | some f => s.badField 0x12 tag f
  | none =>
    if state = 1 then
      if (s.doorGroup g).isOpen then s.reply 0x12 tag .done (.door g true 0 0) else s.opening tag g
    else
      if (s.doorGroup g).isOpen then (s.closing g).reply 0x12 tag .done (.door g false 0 0)
      else s.reply 0x12 tag .done (.door g false 0 0)

/-- DOOR (R104). -/
def takeDoor (tag group state : Nat) (s : State) : State :=
  if s.mode = .run then s.door tag group state else s.wrongMode 0x12 tag

/-- DOOR (R104). -/
def execDoor (tag group state : Nat) (s : State) : Host.Outcome State Fault Refusal :=
  .next (s.submit (.door tag group state) (takeDoor tag group state))

/-! ## CLEAR-FAULT -/

/-- WAITING or IDLE according to the combined request. -/
def Channel.byRequest (x : Channel) : ChannelState := if x.combined then .waiting else .idle

/-- A channel after a CLEAR-FAULT (R50). -/
def Channel.cleared (x : Channel) : Channel :=
  { x with faults := 0, state := if x.state = .latched then x.byRequest else x.state }

/-- CLEAR-FAULT (R50). -/
def takeClearFault (tag channel : Nat) (s : State) : State :=
  if s.mode = .run then
    s.onItem 0x13 tag (within 0 31 channel) (s.channel channel).defined fun s =>
      (s.onPlant (fun p => p.setCh channel (p.ch channel).cleared)).done 0x13 tag
  else s.wrongMode 0x13 tag

/-- CLEAR_FAULT (R50). -/
def execClearFault (tag channel : Nat) (s : State) : Host.Outcome State Fault Refusal :=
  .next (s.submit (.clearFault tag channel) (takeClearFault tag channel))

/-! ## SWEEP-NOW -/

/-- SWEEP-NOW (R130): BUSY while a sweep is in flight; otherwise an on-request sweep starts, and the reply waits for its
completion. -/
def takeSweepNow (tag : Nat) (s : State) : State :=
  if s.mode = .run then
    match s.line.inFlight with
    | some _ => s.reply 0x14 tag .busy .nothing
    | none => s.startSweep .onRequest (some tag)
  else s.wrongMode 0x14 tag

/-- SWEEP_NOW (R130). -/
def execSweepNow (tag : Nat) (s : State) : Host.Outcome State Fault Refusal :=
  .next (s.submit (.sweepNow tag) (takeSweepNow tag))

end Sys2Proof.Machine
end

