-- ==== Sys2Proof/Machine/ChannelEvents.lean ====
section
/-! DEFINITION. The channels' own events (R42, R43, R45 to R49): timers and fault-sense inputs. -/

namespace Sys2Proof.Machine

/-- A defined channel in state `st` whose state timer runs. -/
def Channel.timing (st : ChannelState) (x : Channel) : Bool := x.defined && decide (x.state = st) && x.timer.isSome

/-- The start timer of a STARTING channel expires: RUNNING (R42). -/
def Plant.startEnd (mode : PartMode) (c : Nat) (p : Plant) : Plant :=
  if (p.ch c).timing .starting then p.enterRunning mode c else p

/-- START_TIMER_EXPIRY (R42). -/
def execStartTimerExpiry (channel : Nat) (s : State) : Host.Outcome State Fault Refusal :=
  .next (s.event (fun s => s.onPlant (Plant.startEnd s.mode channel)))

/-- The minimum on of a RUNNING channel expires: the flag is set, and a channel that no longer requests is released (R43). -/
def Plant.minimumOnEnd (mode : PartMode) (c : Nat) (p : Plant) : Plant :=
  if (p.ch c).timing .running then
    let q := p.setCh c { p.ch c with minOnExpired := true, timer := none }
    if (p.ch c).combined then q else q.release mode c
  else p

/-- MINIMUM_ON_EXPIRY (R43). -/
def execMinimumOnExpiry (channel : Nat) (s : State) : Host.Outcome State Fault Refusal :=
  .next (s.event (fun s => s.onPlant (Plant.minimumOnEnd s.mode channel)))

/-- The after-run of a STOPPING channel ends (R45). -/
def Plant.afterRunEnd (c : Nat) (p : Plant) : Plant :=
  if (p.ch c).timing .stopping then p.setCh c (p.ch c).rest else p

/-- AFTER_RUN_EXPIRY (R45), which may end a wind-down (R174). -/
def execAfterRunExpiry (channel : Nat) (s : State) : Host.Outcome State Fault Refusal :=
  .next (s.event (fun s => (s.onPlant (Plant.afterRunEnd channel)).lastChannelCheck))

/-- The minimum off of a LOCKOUT channel ends (R46). -/
def Plant.minimumOffEnd (c : Nat) (p : Plant) : Plant :=
  if (p.ch c).timing .lockout then p.setCh c { p.ch c with state := (p.ch c).byRequest, timer := none } else p

/-- MINIMUM_OFF_EXPIRY (R46). -/
def execMinimumOffExpiry (channel : Nat) (s : State) : Host.Outcome State Fault Refusal :=
  .next (s.event (fun s => s.onPlant (Plant.minimumOffEnd channel)))

/-- The fault backoff of a FAULTED channel ends: LATCHED at a count of 3, WAITING or IDLE below it (R48). -/
def Plant.backoffEnd (c : Nat) (p : Plant) : Plant :=
  if (p.ch c).timing .faulted then
    if (p.ch c).faults = 3 then (p.setCh c { p.ch c with state := .latched, timer := none }).notice (.channelLatched c)
    else p.setCh c { p.ch c with state := (p.ch c).byRequest, timer := none }
  else p

/-- FAULT_BACKOFF_EXPIRY (R48). -/
def execFaultBackoffExpiry (channel : Nat) (s : State) : Host.Outcome State Fault Refusal :=
  .next (s.event (fun s => s.onPlant (Plant.backoffEnd channel)))

/-- The clean run of a RUNNING channel ends: the consecutive fault count becomes 0 (R49). -/
def Plant.cleanRunEnd (c : Nat) (p : Plant) : Plant :=
  match (p.ch c).cleanRun with
  | none => p
  | some _ => p.setCh c { p.ch c with faults := 0, cleanRun := none }

/-- CLEAN_RUN_EXPIRY (R49). -/
def execCleanRunExpiry (channel : Nat) (s : State) : Host.Outcome State Fault Refusal :=
  .next (s.event (fun s => s.onPlant (Plant.cleanRunEnd channel)))

/-- A change of a fault-sense input: the level is recorded in every state, and a change from CLEAR to ASSERTED is a
fault-sense report (R47). -/
def Plant.senseChange (mode : PartMode) (c : Nat) (asserted : Bool) (p : Plant) : Plant :=
  let q := p.setCh c { p.ch c with sense := asserted }
  if asserted && !(p.ch c).sense then q.fault mode c else q

/-- FAULT_SENSE_REPORT (R47), which may end a wind-down (R174). The input itself changes even while the part is not operating,
and start-up then samples it (R53; log 9). -/
def execFaultSenseReport (channel : Nat) (asserted : Bool) (s : State) : Host.Outcome State Fault Refusal :=
  .next ((s.setSensePins (s.sensePins.set channel asserted)).event (fun s =>
    (s.onPlant (Plant.senseChange s.mode channel asserted)).lastChannelCheck))

end Sys2Proof.Machine
end

