-- ==== Sys2Proof/Machine/StoreOps.lean ====
section
/-! DEFINITION. The settings store's operations (chapter 11): what a SAVE keeps, the start of each write, and its end. -/

namespace Sys2Proof.Machine

/-- The working configuration: every definition part, the rota and the part settings (chapter 11). -/
def State.workingConfig (s : State) : StoredConfig :=
  { settings := s.settings
    zones := s.zones.map (fun z => if z.defined then some z.defn else none)
    channels := s.chan.channels.map (fun x => if x.defined then some x.defn else none)
    groups := s.alloc.groups.map ShareGroup.defn
    prompts := s.alloc.prompts.map PromptEntry.defn
    stations := s.line.stations.map (fun x => if x.defined then some x.defn else none)
    inputs := s.sel.inputs.map LogicalInput.defn
    pool := s.sel.pool
    rotaLength := s.alloc.rotaLength
    rota := s.alloc.rota }

/-- The bound channels and idle hours of the exercise records (R163, R194). -/
def State.counters (s : State) : StoredCounters :=
  { first := { bound := (s.exerciseRecord 0).bound, idleHours := (s.exerciseRecord 0).idleHours }
    second := { bound := (s.exerciseRecord 1).bound, idleHours := (s.exerciseRecord 1).idleHours } }

/-- A SAVE's first write begins: the configuration area is bad until it ends (R194). -/
def Store.beginConfiguration (x : Store) : Store := { x with write := .configuration, configArea := none }

/-- A SAVE's second write begins (R194). -/
def Store.beginCounter (x : Store) : Store := { x with write := .counter, counterArea := none }

/-- A checkpoint's write begins (R195). -/
def Store.beginCheckpoint (c : StoredCounters) (x : Store) : Store :=
  { x with write := .checkpoint c, counterArea := none, keptCheckpoint := none }

/-- Once a write has ended, a SAVE that waits begins its own, and otherwise a kept checkpoint is written (R194, R195;
log 14). -/
def Store.next (x : Store) : Store :=
  match x.save with
  | some _ => x.beginConfiguration
  | none =>
    match x.keptCheckpoint with
    | some c => x.beginCheckpoint c
    | none => { x with write := .idle }

/-- A checkpoint is handed over: written at once, or kept while a write is in flight (R195; log 14). -/
def Store.handOver (c : StoredCounters) (x : Store) : Store :=
  match x.write with
  | .idle => x.beginCheckpoint c
  | .configuration => { x with keptCheckpoint := some c }
  | .counter => { x with keptCheckpoint := some c }
  | .checkpoint _ => { x with keptCheckpoint := some c }

/-- A SAVE is taken: its snapshot is made, and its write begins unless a checkpoint's is in flight (R194). -/
def Store.takeSave (op : SaveOp) (x : Store) : Store :=
  let y := { x with save := some op }
  match x.write with
  | .idle => y.beginConfiguration
  | .configuration => y
  | .counter => y
  | .checkpoint _ => y

/-- A write that is cut off leaves its area bad and is forgotten (R196). -/
def Store.cutOff (x : Store) : Store := { x with write := .idle, save := none, keptCheckpoint := none }

/-- What the configuration area holds after a write that did not match: a free value, of which the part's own rules say
only that a good area holds settings and definitions that were once taken (R168; log 13). -/
def failedConfiguration (n : Nat) : Option StoredConfig :=
  match Config.failedConfigurationWrite n with
  | none => none
  | some x => if x.inRange then some x else none

/-- Idle hours within their range (section 8.1). -/
def StoredCounters.inRange (x : StoredCounters) : Bool :=
  within 0 65535 x.first.idleHours && within 0 65535 x.second.idleHours

/-- What the counter area holds after a write that did not match: a free value within the fields' ranges (log 13). -/
def failedCounters (n : Nat) : Option StoredCounters :=
  match Config.failedCounterWrite n with
  | none => none
  | some x => if x.inRange then some x else none

/-- The notice of a failed write (R194). -/
def writeNotice (area : StoreArea) (matched : Bool) : List Notice :=
  if matched then [] else [.storeFault area .writeFailed]

/-- A write item (R194). -/
def writeStatus (matched : Bool) : WriteStatus := if matched then .good else .writeFailed

/-- The free-value counter after a write: a failed one draws one value (log 13). -/
def State.drawUnless (s : State) (matched : Bool) : State := if matched then s else s.setFreeCount (s.freeCount + 1)

/-- The end of a SAVE's configuration write: the counter write follows, whatever this one gave (R194). -/
def State.endConfigurationWrite (s : State) (matched : Bool) : State :=
  match s.store.write, s.store.save with
  | .configuration, some op =>
    (((s.updStore (fun x =>
        { x with configArea := if matched then some op.config else failedConfiguration s.freeCount,
                 configWrite := writeStatus matched }.beginCounter)).drawUnless matched).notifyAll
      (writeNotice .configuration matched))
  | _, _ => s

/-- The end of a SAVE's counter write: the reply is DONE, whatever either write gave (R194). -/
def State.endCounterWrite (s : State) (matched : Bool) : State :=
  match s.store.write, s.store.save with
  | .counter, some op =>
    ((((s.updStore (fun x =>
        { x with counterArea := if matched then some op.counters else failedCounters s.freeCount,
                 counterWrite := writeStatus matched, save := none }.next)).drawUnless matched).notifyAll
      (writeNotice .counter matched))).done 0x1B op.tag
  | _, _ => s

/-- The end of a checkpoint's write (R195). -/
def State.endCheckpointWrite (s : State) (matched : Bool) : State :=
  match s.store.write with
  | .checkpoint c =>
    ((s.updStore (fun x =>
        { x with counterArea := if matched then some c else failedCounters s.freeCount,
                 counterWrite := writeStatus matched }.next)).drawUnless matched).notifyAll (writeNotice .counter matched)
  | .idle => s
  | .configuration => s
  | .counter => s

end Sys2Proof.Machine
end

