-- ==== Sys2Proof/Machine/StartUpOps.lean ====
section
/-! DEFINITION. Start-up (R170, R176), the load of the store (R192), the shutdown of a RESTART (R175) and the loss of supply. -/

namespace Sys2Proof.Machine

/-! ## The blocks' tables from a configuration -/

/-- The zone table at start-up (R22). -/
def zonesFrom (x : StoredConfig) : Table Zone 12 :=
  x.zones.map (fun o => match o with | none => {} | some d => zoneFresh d)

/-- A channel at start-up (R53): LATCHED kept where `latched`, a lockout where it has a minimum off, and the ambient inhibit
of a first evaluation with status EXPIRED. -/
def channelAtStart (d : ChannelDef) (latched sense : Bool) : Channel :=
  { defined := true, defn := d
    state := if latched then .latched else if 0 < d.minOff then .lockout else .idle
    timer := if latched then none else timerOf d.minOff
    target := d.targetAtRest
    inhibit := d.inhibitAt .expired 0 true false
    sense := sense }

/-- The channel table at start-up, with the fault-sense inputs sampled (R53; log 9). `latched` says which channels stay
LATCHED. An undefined channel's fault-sense input is recorded too (section 2.1). -/
def channelsFrom (x : StoredConfig) (latched : Nat → Bool) (pins : Table Bool 32) : Table Channel 32 :=
  x.channels.mapIdx (fun c o =>
    match o with
    | none => { sense := pins.get false c }
    | some d => channelAtStart d (latched c) (pins.get false c))

/-- The exercise-flagged channels of a configuration, in channel-number order (R157). -/
def flaggedIn (x : StoredConfig) : List Nat :=
  x.channels.indices (fun o => match o with | none => false | some d => d.exercise)

/-- The station table at start-up, with the points of every station in the sample table (R133). -/
def stationsFrom (x : StoredConfig) : Table Station 16 :=
  x.stations.map (fun o => match o with | none => {} | some d => stationFresh d)

/-- The allocator at start-up (R57, R90, R110). -/
def allocFrom (x : StoredConfig) : Allocator :=
  { ceiling := x.settings.safeCeiling, threshold := x.settings.safeThreshold, rotaLength := x.rotaLength, rota := x.rota
    groups := x.groups.map (fun d => { defn := d, credit := d.capacity })
    prompts := x.prompts.map (fun o => { defn := o }) }

/-- The selector at start-up (R153, R155). -/
def selectorFrom (x : StoredConfig) : Selector :=
  Selector.restarted { inputs := x.inputs.map inputFresh, pool := x.pool }

/-! ## The exercise records (R164) -/

/-- A record loaded from the counter area (R164): the stored hours where the stored binding is the new one. -/
def recordLoaded (interval : Nat) (bound : Option Nat) (stored : Option StoredCounter) : ExerciseRecord :=
  let hours := match stored with
    | none => 0
    | some c => if c.bound = bound then c.idleHours else 0
  ExerciseRecord.formDue interval { bound := bound, idleHours := hours }

/-- The records at power-on. -/
def recordsLoaded (x : StoredConfig) (counters : Option StoredCounters) : Table ExerciseRecord 2 :=
  ((Table.fill 2 {}).set 0 (recordLoaded x.settings.exerciseInterval (flaggedIn x)[0]? (counters.map StoredCounters.first))).set 1
    (recordLoaded x.settings.exerciseInterval (flaggedIn x)[1]? (counters.map StoredCounters.second))

/-- A record kept at RESTART: bound again, its run timer stopped, its due flag formed again, its retry timer kept (R164). -/
def recordKept (interval : Nat) (bound : Option Nat) (x : ExerciseRecord) : ExerciseRecord :=
  ExerciseRecord.formDue interval (ExerciseRecord.bind bound { x with running := false })

/-- The records at RESTART. -/
def recordsKept (x : StoredConfig) (records : Table ExerciseRecord 2) : Table ExerciseRecord 2 :=
  ((Table.fill 2 {}).set 0 (recordKept x.settings.exerciseInterval (flaggedIn x)[0]? (records.get {} 0))).set 1
    (recordKept x.settings.exerciseInterval (flaggedIn x)[1]? (records.get {} 1))

/-! ## Start-up -/

/-- The configuration a load gives, and how it came (R192). -/
def Store.loadConfig (x : Store) : StoredConfig × LoadStatus :=
  match x.configArea with
  | none => ({}, .defaulted)
  | some c => (c, .loaded)

/-- The notice of a configuration that was defaulted (R192). -/
def loadNotice : LoadStatus → List Notice
  | .defaulted => [.storeFault .configuration .badChecksum]
  | .loaded => []
  | .kept => []

/-- The counter load of a power-on (R192). -/
def Store.counterStatus (x : Store) : LoadStatus :=
  match x.counterArea with
  | none => .defaulted
  | some _ => .loaded

/-- The notice of a counter area that was bad (R192). -/
def counterNotice : LoadStatus → List Notice
  | .defaulted => [.storeFault .counter .badChecksum]
  | .loaded => []
  | .kept => []

/-- The part in STANDBY at the end of start-up with configuration `x`: every table and live value set, the sweep timer
started (R170, R176). Only what outlives start-up is taken from `s`: the store's areas, the fault-sense pins, and the model's
own fields. -/
def State.formed (s : State) (kind : StartKind) (x : StoredConfig) (configLoad counterLoad : LoadStatus)
    (latched : Nat → Bool) (records : Table ExerciseRecord 2) (checkpointTime : Nat) : State :=
  { phase := .operating
    ctl := { startKind := kind }
    settings := x.settings
    zones := zonesFrom x
    doors := Table.fill 4 {}
    chan := { channels := channelsFrom x latched s.sensePins, exercise := records, checkpointTime := checkpointTime }
    alloc := allocFrom x
    line := { stations := stationsFrom x, sweepTimer := some sweepPeriod }
    sel := selectorFrom x
    link := { lineRate := x.settings.lineRate, notices := loadNotice configLoad ++ counterNotice counterLoad }
    store := { configArea := s.store.configArea, counterArea := s.store.counterArea, configLoad := configLoad,
               counterLoad := counterLoad }
    sensePins := s.sensePins
    freeCount := s.freeCount
    pending := s.pending }

/-- The auto-start rule, on reaching STANDBY (R171). -/
def State.autoStart (s : State) : State :=
  if s.settings.autoStart && !decide (s.store.configLoad = .defaulted) then s.tryRun else s

/-- Start-up after power-on (R170). -/
def State.powerUp (s : State) : State :=
  (s.formed .powerOn s.store.loadConfig.1 s.store.loadConfig.2 s.store.counterStatus (fun _ => false)
    (recordsLoaded s.store.loadConfig.1 s.store.counterArea) 0).autoStart

/-- The configuration a RESTART re-initialises with: kept under keep-on-restart, and read again otherwise (R176). -/
def State.restartConfig (s : State) : StoredConfig × LoadStatus :=
  if s.settings.keepOnRestart then (s.workingConfig, .kept) else s.store.loadConfig

/-- Channel `c` is LATCHED (R53). -/
def State.latchedAt (s : State) (c : Nat) : Bool := (s.channel c).defined && decide ((s.channel c).state = .latched)

/-- The re-initialisation after RESTART (R176). -/
def State.reinitialise (s : State) : State :=
  (s.formed .restart s.restartConfig.1 s.restartConfig.2 .kept s.latchedAt
    (recordsKept s.restartConfig.1 s.chan.exercise) s.chan.checkpointTime).autoStart

/-- What a RESTART does when its reply's last character has been sent (R175 steps 2 to 6): the queues are emptied, every drive
line goes off by the part being in start-up, a sweep in flight is abandoned, a checkpoint write is cut off, and every timer
but the exercise hour, exercise retry and checkpoint timers stops. -/
def State.restartShutdown (s : State) : State :=
  { s with
    phase := .startUp
    ctl := { s.ctl with mode := .standby }
    zones := s.zones.map (fun z => { z with holdTimer := none })
    doors := s.doors.map (fun d => { d with limitTimer := none })
    chan := { s.chan with
      channels := s.chan.channels.map (fun x => { x with timer := none, cleanRun := none })
      ambientTimer := none
      exercise := s.chan.exercise.map (fun x => { x with running := false }) }
    alloc := { s.alloc with
      stalenessTimer := none, slotTimer := none
      prompts := s.alloc.prompts.map (fun e => { e with runOnTimer := none }) }
    line := { s.line with sweepTimer := none, inFlight := none }
    link := { s.link with requests := [], notices := [], noticesLost := false, silenceTimer := none, rxBuffer := [] }
    store := s.store.cutOff }

/-- The supply is absent or low (R170): the part is held in reset, the coach link transmitter and the station line are idle,
every drive line is off by the part being held, and a store write is cut off. What else the records hold is lost when the
supply returns (log 11). -/
def State.supplyLost (s : State) : State :=
  { s with
    phase := .held
    line := { s.line with inFlight := none }
    link := { s.link with tx := .idle, ready := none, rxBuffer := [] }
    store := s.store.cutOff }

end Sys2Proof.Machine
end

