-- ==== Sys2Proof/Machine/ConfigRequests.lean ====
section
/-! DEFINITION. The configuration requests: what the owning block does at the taking of each, and the command that brings it
(R1, R2, R26, R27, R83, R88, R109, R110, R118, R119, R136, R137, R138, R193). -/

namespace Sys2Proof.Machine

/-! ## PART-SETTINGS -/

/-- Record `r` becomes `x`, its due flag formed, with its exercise request where the flag moved (R158, R159). -/
def Plant.dueFormed (r : Nat) (x : ExerciseRecord) (p : Plant) : Plant :=
  let q := p.setRec r x
  if x.due = (p.exRec r).due then q else q.formExercise r

/-- Exercise record `r` at the interval of a PART-SETTINGS (R158). -/
def Plant.atInterval (interval : Nat) (r : Nat) (p : Plant) : Plant := p.dueFormed r ((p.exRec r).atInterval interval)

/-- PART-SETTINGS (R193): every setting at once, the safe values where the source is SAFE (R63), and the due flags. -/
def takePartSettings (tag : Nat) (b : SettingsBody) (s : State) : State :=
  s.configure 0x01 tag (settingsChecks b) fun s =>
    let s := s.setSettings (settingsOf b)
    let s := if s.alloc.source = .safe then s.applySafe else s
    (s.onPlant (fun p =>
      Plant.reformAfter s.mode p ((p.atInterval s.settings.exerciseInterval 0).atInterval s.settings.exerciseInterval 1))).done
      0x01 tag

/-- PART_SETTINGS (R193). -/
def execPartSettings (tag : Nat) (b : SettingsBody) (s : State) : Host.Outcome State Fault Refusal :=
  .next (s.submit (.partSettings tag b) (takePartSettings tag b))

/-! ## ZONE-DEF -/

/-- ZONE-DEF without the remove flag (R1). -/
def takeZoneDef (tag : Nat) (b : ZoneBody) (s : State) : State :=
  s.configure 0x02 tag (zoneChecks b) fun s => (s.putZone b.zone (zoneFresh (zoneDefOf b))).done 0x02 tag

/-- ZONE_DEF (R1). -/
def execZoneDef (tag : Nat) (b : ZoneBody) (s : State) : Host.Outcome State Fault Refusal :=
  .next (s.submit (.zoneDef tag b) (takeZoneDef tag b))

/-- ZONE-DEF with the remove flag set (R2). -/
def takeZoneDefRemove (tag zone : Nat) (s : State) : State :=
  s.configure 0x02 tag [(1, within 1 12 zone)] fun s =>
    if (s.zone zone).defined then (s.setZone zone {}).done 0x02 tag else s.noSuchItem 0x02 tag

/-- ZONE_DEF_REMOVE (R2). -/
def execZoneDefRemove (tag zone : Nat) (s : State) : Host.Outcome State Fault Refusal :=
  .next (s.submit (.zoneDefRemove tag zone) (takeZoneDefRemove tag zone))

/-! ## CHANNEL-DEF -/

/-- The live part of a channel at its definition (R26): a lockout where the minimum off is above 0, a FAULTED or LATCHED
state kept, the fault count and the fault-sense level kept, the ambient inhibit of a first evaluation. -/
def channelRedefined (status : AmbientStatus) (ambient : Int) (d : ChannelDef) (x : Channel) : Channel :=
  let y : Channel :=
    { defined := true, defn := d, target := d.targetAtRest, inhibit := d.inhibitAt status ambient true false,
      faults := x.faults, sense := x.sense }
  match x.state with
  | .faulted => { y with state := .faulted, timer := x.timer }
  | .latched => { y with state := .latched }
  | .idle => { y with state := if 0 < d.minOff then .lockout else .idle, timer := timerOf d.minOff }
  | .lockout => { y with state := if 0 < d.minOff then .lockout else .idle, timer := timerOf d.minOff }
  | .waiting => { y with state := if 0 < d.minOff then .lockout else .idle, timer := timerOf d.minOff }
  | .starting => { y with state := if 0 < d.minOff then .lockout else .idle, timer := timerOf d.minOff }
  | .running => { y with state := if 0 < d.minOff then .lockout else .idle, timer := timerOf d.minOff }
  | .stopping => { y with state := if 0 < d.minOff then .lockout else .idle, timer := timerOf d.minOff }

/-- CHANNEL-DEF without the remove flag (R26), with the exercise binding formed again (R157). -/
def takeChannelDef (tag : Nat) (b : ChannelBody) (s : State) : State :=
  s.configure 0x03 tag (channelChecks b) fun s =>
    (s.onPlant (fun p =>
      (p.setCh b.channel
        (channelRedefined p.chan.ambientStatus p.chan.ambientValue (channelDefOf b) (p.ch b.channel))).rebind)).done 0x03 tag

/-- CHANNEL_DEF (R26). -/
def execChannelDef (tag : Nat) (b : ChannelBody) (s : State) : Host.Outcome State Fault Refusal :=
  .next (s.submit (.channelDef tag b) (takeChannelDef tag b))

/-- CHANNEL-DEF with the remove flag set (R27): the factory contents; the fault-sense level stays recorded. -/
def takeChannelDefRemove (tag channel : Nat) (s : State) : State :=
  s.configure 0x03 tag [(1, within 0 31 channel)] fun s =>
    if (s.channel channel).defined then
      (s.onPlant (fun p => (p.setCh channel { sense := (p.ch channel).sense }).rebind)).done 0x03 tag
    else s.noSuchItem 0x03 tag

/-- CHANNEL_DEF_REMOVE (R27). -/
def execChannelDefRemove (tag channel : Nat) (s : State) : Host.Outcome State Fault Refusal :=
  .next (s.submit (.channelDefRemove tag channel) (takeChannelDefRemove tag channel))

/-! ## GROUP-DEF and ROTA-LOAD -/

/-- A share group at its definition: full credit and no refusals (R88). -/
def groupFresh (d : GroupDef) : ShareGroup := { defn := d, credit := d.capacity }

/-- GROUP-DEF (R88). -/
def takeGroupDef (tag group peak divisor burst : Nat) (s : State) : State :=
  s.configure 0x04 tag (groupChecks group peak divisor burst) fun s =>
    (s.updAlloc (fun a =>
      { a with groups := a.groups.set group (groupFresh { peak := peak, divisor := divisor, burst := burst }) })).done
      0x04 tag

/-- GROUP_DEF (R88). -/
def execGroupDef (tag group peak divisor burst : Nat) (s : State) : Host.Outcome State Fault Refusal :=
  .next (s.submit (.groupDef tag group peak divisor burst) (takeGroupDef tag group peak divisor burst))

/-- A rota after a ROTA-LOAD: entries from the length on EMPTY, the carried entries in their places, the others kept
(R83). -/
def rotaLoaded (length first : Nat) (entries : List (Option Nat)) (rota : Table (Option Nat) 64) : Table (Option Nat) 64 :=
  rota.mapIdx (fun k e =>
    if length ≤ k then none
    else if first ≤ k ∧ k < first + entries.length then entries.getD (k - first) none
    else e)

/-- ROTA-LOAD (R83). -/
def takeRotaLoad (tag length first : Nat) (entries : List (Option Nat)) (s : State) : State :=
  s.configure 0x05 tag (rotaChecks length first entries) fun s =>
    (s.updAlloc (fun a =>
      { a with rotaLength := length, rota := rotaLoaded length first entries a.rota, rotaPosition := 0,
               firstSlot := true })).done 0x05 tag

/-- ROTA_LOAD (R83). -/
def execRotaLoad (tag length first : Nat) (entries : List (Option Nat)) (s : State) :
    Host.Outcome State Fault Refusal :=
  .next (s.submit (.rotaLoad tag length first entries) (takeRotaLoad tag length first entries))

/-! ## PROMPT-DEF -/

/-- Another entry than `entry` names the channel (R109). -/
def Allocator.namedElsewhere (a : Allocator) (entry channel : Nat) : Bool :=
  (a.prompts.indices (fun e => decide (e.defn.map PromptDef.channel = some channel))).any (fun k => !decide (k = entry))

/-- A prompt table entry replaced, its run-on timer stopped (R109, R110). -/
def State.setPrompt (s : State) (entry : Nat) (d : Option PromptDef) : State :=
  s.updAlloc (fun a => { a with prompts := a.prompts.set entry { defn := d } })

/-- PROMPT-DEF without the remove flag (R109). -/
def takePromptDef (tag entry flag channel doorGroup runOn : Nat) (s : State) : State :=
  s.configure 0x06 tag (promptChecks entry flag channel doorGroup runOn (s.alloc.namedElsewhere entry channel)) fun s =>
    (s.setPrompt entry (some { channel := channel, doorGroup := doorGroup, runOn := runOn })).done 0x06 tag

/-- PROMPT_DEF (R109). -/
def execPromptDef (tag entry flag channel doorGroup runOn : Nat) (s : State) : Host.Outcome State Fault Refusal :=
  .next (s.submit (.promptDef tag entry flag channel doorGroup runOn)
    (takePromptDef tag entry flag channel doorGroup runOn))

/-- PROMPT-DEF with the remove flag set (R110). -/
def takePromptDefRemove (tag entry : Nat) (s : State) : State :=
  s.configure 0x06 tag [(1, within 0 3 entry)] fun s =>
    if (s.promptEntry entry).defn.isSome then (s.setPrompt entry none).done 0x06 tag else s.noSuchItem 0x06 tag

/-- PROMPT_DEF_REMOVE (R110). -/
def execPromptDefRemove (tag entry : Nat) (s : State) : Host.Outcome State Fault Refusal :=
  .next (s.submit (.promptDefRemove tag entry) (takePromptDefRemove tag entry))

/-! ## STATION-DEF -/

/-- A station record replaced, the poll outstanding to it disowned (R118, R119, R131). -/
def State.replaceStation (s : State) (i : Nat) (x : Station) : State := (s.setStation i x).updLine (StationLine.disown i)

/-- STATION-DEF without the remove flag (R118). -/
def takeStationDef (tag : Nat) (b : StationBody) (s : State) : State :=
  s.configure 0x07 tag (stationChecks b (pointTotal s.line.stations b.station b.kinds.length)) fun s =>
    (s.replaceStation b.station (stationFresh (stationDefOf b))).done 0x07 tag

/-- STATION_DEF (R118). -/
def execStationDef (tag : Nat) (b : StationBody) (s : State) : Host.Outcome State Fault Refusal :=
  .next (s.submit (.stationDef tag b) (takeStationDef tag b))

/-- STATION-DEF with the remove flag set (R119). -/
def takeStationDefRemove (tag station : Nat) (s : State) : State :=
  s.configure 0x07 tag [(1, within 0 15 station)] fun s =>
    if (s.station station).defined then (s.replaceStation station {}).done 0x07 tag else s.noSuchItem 0x07 tag

/-- STATION_DEF_REMOVE (R119). -/
def execStationDefRemove (tag station : Nat) (s : State) : Host.Outcome State Fault Refusal :=
  .next (s.submit (.stationDefRemove tag station) (takeStationDefRemove tag station))

/-! ## INPUT-DEF and POOL-DEF -/

/-- A logical input replaced: off the candidate list, its pool point returned, its live part fresh (R136, R137). -/
def Selector.replaceInput (i : Nat) (d : InputDef) (x : Selector) : Selector :=
  let y := (x.returnPoint (x.inputs.get1 {} i)).leaveCandidates i
  { y with inputs := y.inputs.set1 i (inputFresh d) }

/-- INPUT-DEF without the remove flag (R136). -/
def takeInputDef (tag input flag : Nat) (primary : PointBody) (alternates : List PointBody) (s : State) : State :=
  s.configure 0x08 tag (inputChecks input flag primary alternates) fun s =>
    (s.updSel (Selector.replaceInput input
      { primary := some (.ofBody primary), alternates := alternates.map PointRef.ofBody })).done 0x08 tag

/-- INPUT_DEF (R136). -/
def execInputDef (tag input flag : Nat) (primary : PointBody) (alternates : List PointBody) (s : State) :
    Host.Outcome State Fault Refusal :=
  .next (s.submit (.inputDef tag input flag primary alternates) (takeInputDef tag input flag primary alternates))

/-- INPUT-DEF with the remove flag set (R137). -/
def takeInputDefRemove (tag input : Nat) (s : State) : State :=
  s.configure 0x08 tag [(1, within 1 13 input)] fun s =>
    if (s.input input).defined then (s.updSel (Selector.replaceInput input {})).done 0x08 tag else s.noSuchItem 0x08 tag

/-- INPUT_DEF_REMOVE (R137). -/
def execInputDefRemove (tag input : Nat) (s : State) : Host.Outcome State Fault Refusal :=
  .next (s.submit (.inputDefRemove tag input) (takeInputDefRemove tag input))

/-- An input's source is a pool point. -/
def LogicalInput.onPool (x : LogicalInput) : Bool :=
  match x.source with
  | .pool _ => true
  | .primary => false
  | .alternate1 => false
  | .alternate2 => false
  | .none => false

/-- An input at a POOL-DEF: INVALID where its source was a pool point (R138). -/
def LogicalInput.atPoolDef (x : LogicalInput) : LogicalInput :=
  if x.onPool then { x with state := .invalid, source := .none, verifyCount := 0 } else x

/-- The notices of a POOL-DEF, in logical-input order (R138). -/
def Selector.poolNotices (x : Selector) : List Notice :=
  (inputNumbers.filter (fun i => (x.inputs.get1 {} i).onPool)).map (fun i => .inputInvalid i (x.inputs.get1 {} i).value)

/-- The selector after a POOL-DEF (R138). -/
def Selector.poolDefined (points : List PointRef) (x : Selector) : Selector :=
  { x with pool := points, freeList := List.range points.length, inputs := x.inputs.map LogicalInput.atPoolDef }

/-- POOL-DEF (R138). -/
def takePoolDef (tag : Nat) (points : List PointBody) (s : State) : State :=
  s.configure 0x09 tag (poolChecks points) fun s =>
    ((s.updSel (Selector.poolDefined (points.map PointRef.ofBody))).notifyAll s.sel.poolNotices).done 0x09 tag

/-- POOL_DEF (R138). -/
def execPoolDef (tag : Nat) (points : List PointBody) (s : State) : Host.Outcome State Fault Refusal :=
  .next (s.submit (.poolDef tag points) (takePoolDef tag points))

end Sys2Proof.Machine
end

