-- ==== Sys2Proof/Machine/ExerciseEvents.lean ====
section
/-! DEFINITION. The exercise records' events and the checkpoint (R158, R161, R162, R163). -/

namespace Sys2Proof.Machine

/-- The hour timer of a record reaches 3600 s: the idle hours rise, the due flag is formed, and the exercise request where
the flag moved (R158, R159). -/
def Plant.hourEnd (mode : PartMode) (interval : Nat) (r : Nat) (p : Plant) : Plant :=
  match (p.exRec r).bound with
  | none => p
  | some c =>
    if (p.ch c).state = .running then p
    else
      let x : ExerciseRecord := { p.exRec r with idleHours := countUp 65535 (p.exRec r).idleHours, hourTime := 0 }
      Plant.reformAfter mode p (p.dueFormed r (x.formDue interval))

/-- An exercise hour in RUN or FALLBACK (R158). -/
def State.exerciseHourEnd (s : State) (r : Nat) : State :=
  match s.mode with
  | .run => s.onPlant (Plant.hourEnd s.mode s.settings.exerciseInterval r)
  | .fallback => s.onPlant (Plant.hourEnd s.mode s.settings.exerciseInterval r)
  | .standby => s
  | .windDown => s

/-- EXERCISE_HOUR (R158). -/
def execExerciseHour (record : Nat) (s : State) : Host.Outcome State Fault Refusal :=
  .next (s.event (fun s => s.exerciseHourEnd record))

/-- A record's retry timer expires: it stops, and the exercise request is formed again (R162). -/
def Plant.retryEnd (mode : PartMode) (r : Nat) (p : Plant) : Plant :=
  match (p.exRec r).retry with
  | none => p
  | some _ => Plant.reformAfter mode p ((p.setRec r { p.exRec r with retry := none }).formExercise r)

/-- EXERCISE_RETRY_EXPIRY (R162). -/
def execExerciseRetryExpiry (record : Nat) (s : State) : Host.Outcome State Fault Refusal :=
  .next (s.event (fun s => s.onPlant (Plant.retryEnd s.mode record)))

/-- A record whose exercise has been satisfied (R161 steps 2 to 4). -/
def ExerciseRecord.satisfied (duration : Nat) (x : ExerciseRecord) : ExerciseRecord :=
  { x with idleHours := 0, hourTime := 0, due := false, retry := none, running := false, runTime := seconds duration }

/-- A record's run timer reaches the exercise duration (R161). -/
def Plant.satisfy (mode : PartMode) (duration : Nat) (r : Nat) (p : Plant) : Plant :=
  match (p.exRec r).bound with
  | none => p
  | some c =>
    if (p.exRec r).running then
      let q := if (p.exRec r).due then p.notice (.exerciseDone c (p.exRec r).idleHours) else p
      Plant.reformAfter mode p ((q.setRec r ((p.exRec r).satisfied duration)).formExercise r)
    else p

/-- EXERCISE_SATISFIED (R161). -/
def execExerciseSatisfied (record : Nat) (s : State) : Host.Outcome State Fault Refusal :=
  .next (s.event (fun s => s.onPlant (Plant.satisfy s.mode s.settings.exerciseDuration record)))

/-- The checkpoint timer reaches 24 h: it returns to 0 and a checkpoint is handed to the store (R163). -/
def State.checkpointDue (s : State) : State :=
  (s.updChan (fun c => { c with checkpointTime := 0 })).updStore (Store.handOver s.counters)

/-- A checkpoint in RUN or FALLBACK (R163). -/
def State.checkpointEnd (s : State) : State :=
  match s.mode with
  | .run => s.checkpointDue
  | .fallback => s.checkpointDue
  | .standby => s
  | .windDown => s

/-- CHECKPOINT (R163). -/
def execCheckpoint (s : State) : Host.Outcome State Fault Refusal := .next (s.event State.checkpointEnd)

end Sys2Proof.Machine
end

