-- ==== Sys2Proof/Machine/LineEvents.lean ====
section
/-! DEFINITION. The events of the station line (R116, R117, R121). -/

namespace Sys2Proof.Machine

/-- An expiry of the sweep timer (R121): a periodic sweep, or an overrun. -/
def State.sweepDue (s : State) : State :=
  match s.line.sweepTimer with
  | none => s
  | some _ =>
    let s := s.updLine (fun l => { l with sweepTimer := some sweepPeriod })
    match s.line.inFlight with
    | none => s.startSweep .periodic none
    | some _ => s.updLine (fun l => { l with overruns := countUp 65535 l.overruns })

/-- SWEEP_TIMER_EXPIRY (R121). -/
def execSweepTimerExpiry (s : State) : Host.Outcome State Fault Refusal := .next (s.event State.sweepDue)

/-- POLL_REPLY_WINDOW_EXPIRY (R116): no character arrived within 20 ms. -/
def execPollReplyWindowExpiry (s : State) : Host.Outcome State Fault Refusal :=
  .next (s.event (fun s => s.atPoll (fun _ => .noReply)))

/-- POLL_REPLY_GAP_EXPIRY (R116): a gap of more than 2 ms ended the reply. -/
def execPollReplyGapExpiry (reply : List Byte) (s : State) : Host.Outcome State Fault Refusal :=
  .next (s.event (fun s => s.atPoll (fun p => p.judge reply)))

/-- POLL_REPLY_END (R116): the reply holds as many characters as its kind and point count call for. -/
def execPollReplyEnd (reply : List Byte) (s : State) : Host.Outcome State Fault Refusal :=
  .next (s.event (fun s => s.atPoll (fun p => p.judge reply)))

end Sys2Proof.Machine
end

