-- ==== Sys2Proof/Machine/ModeRequests.lean ====
section
/-! DEFINITION. The mode requests and SAVE (R167, R172, R175, R194): what is done at the taking of each, and the command that
brings it. -/

namespace Sys2Proof.Machine

/-- START in STANDBY (R167): the validation, and the reply of its result. -/
def State.startStandby (s : State) (tag : Nat) : State :=
  match s.validate with
  | none => s.tryRun.done 0x18 tag
  | some f => s.tryRun.reply 0x18 tag .configFault (.configFault f)

/-- START (R167). -/
def takeStart (tag : Nat) (s : State) : State :=
  match s.mode with
  | .standby => s.startStandby tag
  | .run => s.wrongMode 0x18 tag
  | .windDown => s.reply 0x18 tag .busy .nothing
  | .fallback => s.wrongMode 0x18 tag

/-- START (R167). -/
def execStart (tag : Nat) (s : State) : Host.Outcome State Fault Refusal :=
  .next (s.submit (.start tag) (takeStart tag))

/-- STOP in RUN (R172): the entry to WIND-DOWN, ACCEPTED with the number of channels still drawing, and the end of the
wind-down where none is. -/
def State.stopRun (s : State) (tag : Nat) : State :=
  let t := s.windDownEntry
  t.windDownCheck.reply 0x19 tag .accepted (.stopping t.plant.drawingCount)

/-- STOP (R172). -/
def takeStop (tag : Nat) (s : State) : State :=
  match s.mode with
  | .run => s.stopRun tag
  | .standby => s.done 0x19 tag
  | .windDown => s.done 0x19 tag
  | .fallback => s.stopRun tag

/-- STOP (R172). -/
def execStop (tag : Nat) (s : State) : Host.Outcome State Fault Refusal :=
  .next (s.submit (.stop tag) (takeStop tag))

/-- RESTART (R175 step 1): the reply DONE. What it does to the part comes when the reply's last character has been sent
(log 30). -/
def takeRestart (tag : Nat) (s : State) : State := s.done 0x1A tag

/-- RESTART (R175). -/
def execRestart (tag : Nat) (s : State) : Host.Outcome State Fault Refusal :=
  .next (s.submit (.restart tag) (takeRestart tag))

/-- A SAVE that the part mode lets be taken: the snapshot, and the reply left to the end of the writes (R194). -/
def State.startSave (s : State) (tag : Nat) : State :=
  s.updStore (Store.takeSave { tag := tag, config := s.workingConfig, counters := s.counters })

/-- SAVE (R194). -/
def takeSave (tag : Nat) (s : State) : State :=
  match s.mode with
  | .standby => s.startSave tag
  | .run => s.startSave tag
  | .windDown => s.wrongMode 0x1B tag
  | .fallback => s.startSave tag

/-- SAVE (R194). -/
def execSave (tag : Nat) (s : State) : Host.Outcome State Fault Refusal :=
  .next (s.submit (.save tag) (takeSave tag))

end Sys2Proof.Machine
end

