-- ==== Sys2Proof/Machine/Reports.lean ====
section
/-! DEFINITION. The reports (R25, R56, R86, R101, R135, R156, R188), and the records READ-CONFIG and ROTA-READ return (R189, R84),
each as its owner's state stands. -/

namespace Sys2Proof.Machine

/-- The place of a number in a list, 0 for the first. -/
def positionIn (n : Nat) : List Nat → Option Nat
  | [] => none
  | a :: as => if a = n then some 0 else (positionIn n as).map (fun k => k + 1)

/-- ZONE-REPORT of a defined zone (R25). -/
def State.zoneReport (s : State) (n : Nat) : ZoneReport :=
  let z := s.zone n
  { zone := n, commandedSetpoint := z.commandedSetpoint, commandedMode := z.commandedMode,
    effectiveSetpoint := z.effectiveSetpoint, effectiveMode := z.effectiveMode, nudge := z.nudge,
    inputValue := z.inputValue, integral := z.integral, demand := z.demand, hold := z.hold,
    holdSeconds := secondsLeft z.holdTimer }

/-- CHANNEL-REPORT of a defined channel (R56). -/
def State.channelReport (s : State) (c : Nat) : ChannelReport :=
  let x := s.channel c
  { channel := c, state := x.state, timerSeconds := secondsLeft x.timer, minOnExpired := x.minOnExpired, own := x.own,
    drawn := x.drawn, prompt := x.prompt, exercise := x.exercise, combined := x.combined, inhibit := x.inhibit,
    ambientStatus := s.chan.ambientStatus, ambientValue := s.chan.ambientValue, driving := x.driving, target := x.target,
    applied := x.applied, level := x.level, counted := x.counted, faults := x.faults, sense := x.sense,
    position := positionIn c s.chan.grantOrder }

/-- ALLOC-REPORT (R86). -/
def State.allocReport (s : State) : AllocReport :=
  { ceiling := s.alloc.ceiling, threshold := s.alloc.threshold, source := s.alloc.source, supplyStale := s.ctl.supplyStale,
    stalenessSeconds := secondsLeft s.alloc.stalenessTimer, preemptionWidth := s.settings.preemptionWidth,
    total := s.plant.total, waiting := s.plant.countIn .waiting, starting := s.plant.countIn .starting,
    running := s.plant.countIn .running, stopping := s.plant.countIn .stopping, rotaLength := s.alloc.rotaLength,
    rotaPosition := s.alloc.rotaPosition, cursors := s.alloc.cursors.rows,
    displacementRefused := s.alloc.displacementRefused, grants := s.alloc.lastGrants, releases := s.alloc.lastReleases,
    displacements := s.alloc.lastDisplacements }

/-- A figure summed over the defined channels of a share group. -/
def Plant.sumGroup (p : Plant) (g : Nat) (f : Channel → Nat) : Nat :=
  p.sum (fun _ x => if x.defined && decide (x.defn.group = g) then f x else 0)

/-- The number of a share group's channels in a state (R101). -/
def Plant.groupIn (p : Plant) (g : Nat) (st : ChannelState) : Nat :=
  p.sumGroup g (fun x => if x.state = st then 1 else 0)

/-- GROUP-REPORT (R101). -/
def State.groupReport (s : State) (g : Nat) : GroupReport :=
  let x := s.group g
  { group := g, peak := x.defn.peak, divisor := x.defn.divisor, burst := x.defn.burst, refill := x.defn.refill,
    capacity := x.defn.capacity, credit := x.credit,
    load := s.plant.sumGroup g (fun y => if y.state.inService then y.counted else 0),
    starting := s.plant.groupIn g .starting, running := s.plant.groupIn g .running,
    stopping := s.plant.groupIn g .stopping, creditRefusals := x.creditRefusals, peakRefusals := x.peakRefusals }

/-- The input a pool index is lent to (R156). -/
def Selector.lentTo (s : Selector) (k : Nat) : Option Nat :=
  inputNumbers.find? (fun i => decide ((s.inputs.get1 {} i).source = .pool k))

/-- INPUT-REPORT of a defined input (R156). -/
def State.inputReport (s : State) (i : Nat) : InputReport :=
  let x := s.input i
  { input := i, evaluated := s.evaluated i x, primary := x.defn.primary, alternates := x.defn.alternates,
    state := x.state, source := x.source, sourcePoint := s.sel.sourcePoint x, value := x.value, holding := x.holding,
    seenGood := x.seenGood, badCount := x.badCount, verifyCount := x.verifyCount,
    position := positionIn i s.sel.candidates, candidates := s.sel.candidates, poolLength := s.sel.pool.length,
    freeList := s.sel.freeList, lentTo := (List.range s.sel.pool.length).map s.sel.lentTo }

/-- STATION-REPORT of a defined station (R135). -/
def State.stationReport (s : State) (i : Nat) : StationReport :=
  let x := s.station i
  { station := i, address := x.defn.address, enabled := x.defn.enabled, present := x.present, missCount := x.missCount,
    writePending := x.writePending, changedInFlight := x.changedInFlight, lastRead := x.lastRead,
    lastWrite := x.lastWrite, writeFailures := x.writeFailures, points := x.points,
    inFlight := s.line.inFlight.map Sweep.kind, overruns := s.line.overruns, lastSweep := s.line.lastSweep }

/-- One door group in STATUS (R103). -/
def DoorGroup.status (d : DoorGroup) : DoorStatus :=
  { isOpen := d.isOpen, limitExpired := d.limitExpired, limitSeconds := secondsLeft d.limitTimer }

/-- One exercise record in STATUS (R165): a stopped run timer holds the time it reached (R160; log 26, log 42). -/
def ExerciseRecord.status (x : ExerciseRecord) : ExerciseStatus :=
  { bound := x.bound, idleHours := x.idleHours, due := x.due, retryMinutes := minutesLeft x.retry,
    runSeconds := x.runTime / 1000 }

/-- STATUS as it stands (R188). -/
def State.statusReport (s : State) : StatusReport :=
  { mode := s.mode, startKind := s.ctl.startKind, lastValidation := s.ctl.lastValidation,
    fallbackSeconds := s.ctl.fallbackTime / 1000, fallbackFlag := s.ctl.fallbackFlag, supplyStale := s.ctl.supplyStale,
    noticesLost := s.link.noticesLost, counts := s.link.counts, lineRate := s.link.lineRate,
    requests := s.link.requests.length, notices := s.link.notices.length,
    silenceSeconds := secondsLeft s.link.silenceTimer, configLoad := s.store.configLoad,
    counterLoad := s.store.counterLoad, configWrite := s.store.configWrite, counterWrite := s.store.counterWrite,
    doors := s.doors.rows.map DoorGroup.status, exercise := s.chan.exercise.rows.map ExerciseRecord.status }

/-- The two flags a STATUS clears once its reply has been formed (R188). -/
def State.clearReported (s : State) : State :=
  (s.updCtl (fun m => { m with fallbackFlag := false })).updLink (fun l => { l with noticesLost := false })

/-- The rota entries from `first` on, EMPTY at or beyond the length (R84). -/
def Allocator.entries (a : Allocator) (first count : Nat) : List (Option Nat) :=
  (List.range count).map (fun k => if first + k < a.rotaLength then a.rota.get none (first + k) else none)

/-- What READ-CONFIG finds at a record kind and index (R189). -/
inductive ConfigLookup where
  | badKind
  | badIndex
  | missing
  | record (r : ConfigRecord)
deriving DecidableEq, Repr

/-- A record in range, or its absence. -/
def ConfigLookup.ofDefined (inRange defined : Bool) (r : ConfigRecord) : ConfigLookup :=
  if inRange then if defined then .record r else .missing else .badIndex

/-- READ-CONFIG's record (R189). -/
def State.readRecord (s : State) (kind index : Nat) : ConfigLookup :=
  if kind = 0x01 then .ofDefined (decide (index = 0)) true (.settings s.settings)
  else if kind = 0x02 then .ofDefined (within 1 12 index) (s.zone index).defined (.zone index (s.zone index).defn)
  else if kind = 0x03 then
    .ofDefined (within 0 31 index) (s.channel index).defined (.channel index (s.channel index).defn)
  else if kind = 0x04 then .ofDefined (within 0 7 index) true (.group index (s.group index).defn)
  else if kind = 0x06 then
    match (s.promptEntry index).defn with
    | some d => .ofDefined (within 0 3 index) true (.prompt index d)
    | none => .ofDefined (within 0 3 index) false (.pool [])
  else if kind = 0x07 then
    .ofDefined (within 0 15 index) (s.station index).defined (.station index (s.station index).defn)
  else if kind = 0x08 then .ofDefined (within 1 13 index) (s.input index).defined (.input index (s.input index).defn)
  else if kind = 0x09 then .ofDefined (decide (index = 0)) true (.pool s.sel.pool)
  else .badKind

end Sys2Proof.Machine
end

