-- ==== Sys2Proof/Machine/Queries.lean ====
section
/-! DEFINITION. The queries (R25, R56, R84, R86, R101, R135, R156, R188, R189) and the request of unknown kind (R185): what is done
at the taking of each, and the command that brings it. -/

namespace Sys2Proof.Machine

/-- STATUS (R188): the report as the state stands, and then the two flags cleared. -/
def takeStatus (tag : Nat) (s : State) : State := (s.reply 0x20 tag .done (.status s.statusReport)).clearReported

/-- STATUS (R188). -/
def execStatus (tag : Nat) (s : State) : Host.Outcome State Fault Refusal :=
  .next (s.submit (.status tag) (takeStatus tag))

/-- ZONE-REPORT (R25). -/
def takeZoneReport (tag zone : Nat) (s : State) : State :=
  s.onItem 0x21 tag (within 1 12 zone) (s.zone zone).defined fun s =>
    s.reply 0x21 tag .done (.zone (s.zoneReport zone))

/-- ZONE_REPORT (R25). -/
def execZoneReport (tag zone : Nat) (s : State) : Host.Outcome State Fault Refusal :=
  .next (s.submit (.zoneReport tag zone) (takeZoneReport tag zone))

/-- CHANNEL-REPORT (R56). -/
def takeChannelReport (tag channel : Nat) (s : State) : State :=
  s.onItem 0x22 tag (within 0 31 channel) (s.channel channel).defined fun s =>
    s.reply 0x22 tag .done (.channel (s.channelReport channel))

/-- CHANNEL_REPORT (R56). -/
def execChannelReport (tag channel : Nat) (s : State) : Host.Outcome State Fault Refusal :=
  .next (s.submit (.channelReport tag channel) (takeChannelReport tag channel))

/-- ALLOC-REPORT (R86). -/
def takeAllocReport (tag : Nat) (s : State) : State := s.reply 0x23 tag .done (.alloc s.allocReport)

/-- ALLOC_REPORT (R86). -/
def execAllocReport (tag : Nat) (s : State) : Host.Outcome State Fault Refusal :=
  .next (s.submit (.allocReport tag) (takeAllocReport tag))

/-- GROUP-REPORT (R101). -/
def takeGroupReport (tag group : Nat) (s : State) : State :=
  s.onItem 0x24 tag (within 0 7 group) true fun s => s.reply 0x24 tag .done (.group (s.groupReport group))

/-- GROUP_REPORT (R101). -/
def execGroupReport (tag group : Nat) (s : State) : Host.Outcome State Fault Refusal :=
  .next (s.submit (.groupReport tag group) (takeGroupReport tag group))

/-- INPUT-REPORT (R156). -/
def takeInputReport (tag input : Nat) (s : State) : State :=
  s.onItem 0x25 tag (within 1 13 input) (s.input input).defined fun s =>
    s.reply 0x25 tag .done (.input (s.inputReport input))

/-- INPUT_REPORT (R156). -/
def execInputReport (tag input : Nat) (s : State) : Host.Outcome State Fault Refusal :=
  .next (s.submit (.inputReport tag input) (takeInputReport tag input))

/-- STATION-REPORT (R135). -/
def takeStationReport (tag station : Nat) (s : State) : State :=
  s.onItem 0x26 tag (within 0 15 station) (s.station station).defined fun s =>
    s.reply 0x26 tag .done (.station (s.stationReport station))

/-- STATION_REPORT (R135). -/
def execStationReport (tag station : Nat) (s : State) : Host.Outcome State Fault Refusal :=
  .next (s.submit (.stationReport tag station) (takeStationReport tag station))

/-- READ-CONFIG (R189). -/
def takeReadConfig (tag kind index : Nat) (s : State) : State :=
  match s.readRecord kind index with
  | .badKind => s.badField 0x27 tag 1
  | .badIndex => s.badField 0x27 tag 2
  | .missing => s.noSuchItem 0x27 tag
  | .record r => s.reply 0x27 tag .done (.config r)

/-- READ_CONFIG (R189). -/
def execReadConfig (tag kind index : Nat) (s : State) : Host.Outcome State Fault Refusal :=
  .next (s.submit (.readConfig tag kind index) (takeReadConfig tag kind index))

/-- ROTA-READ (R84; a sum above 64 is named as the count field, log 28). -/
def takeRotaRead (tag first count : Nat) (s : State) : State :=
  match firstBad [(1, within 0 63 first), (2, within 1 48 count && decide (first + count ≤ 64))] with
  | some f => s.badField 0x28 tag f
  | none =>
    s.reply 0x28 tag .done
      (.rota s.alloc.rotaLength s.alloc.rotaPosition s.alloc.firstSlot (s.alloc.entries first count))

/-- ROTA_READ (R84). -/
def execRotaRead (tag first count : Nat) (s : State) : Host.Outcome State Fault Refusal :=
  .next (s.submit (.rotaRead tag first count) (takeRotaRead tag first count))

/-- A frame whose kind is not a request kind (R185). -/
def takeUnknownKind (tag kind : Nat) (s : State) : State := s.reply kind tag .unknownKind .nothing

/-- UNKNOWN_KIND (R185). -/
def execUnknownKind (tag kind : Nat) (s : State) : Host.Outcome State Fault Refusal :=
  .next (s.submit (.unknownKind tag kind) (takeUnknownKind tag kind))

end Sys2Proof.Machine
end

