-- ==== Sys2Proof/Machine/Requests.lean ====
section
/-! DEFINITION. The taking of a request from the request queue (R184, R185): the frame at the head read by its kind and length, and
handed to its owner. -/

namespace Sys2Proof.Machine

/-- What the owning block does at the taking of a request; nothing for a command that is no request. -/
def ownerAct : Instr → State → State
  | .partSettings tag body, s => takePartSettings tag body s
  | .zoneDef tag body, s => takeZoneDef tag body s
  | .zoneDefRemove tag zone, s => takeZoneDefRemove tag zone s
  | .channelDef tag body, s => takeChannelDef tag body s
  | .channelDefRemove tag channel, s => takeChannelDefRemove tag channel s
  | .groupDef tag group peak divisor burst, s => takeGroupDef tag group peak divisor burst s
  | .rotaLoad tag length first entries, s => takeRotaLoad tag length first entries s
  | .promptDef tag entry removeFlag channel doorGroup runOn, s => takePromptDef tag entry removeFlag channel doorGroup runOn s
  | .promptDefRemove tag entry, s => takePromptDefRemove tag entry s
  | .stationDef tag body, s => takeStationDef tag body s
  | .stationDefRemove tag station, s => takeStationDefRemove tag station s
  | .inputDef tag input removeFlag primary alternates, s => takeInputDef tag input removeFlag primary alternates s
  | .inputDefRemove tag input, s => takeInputDefRemove tag input s
  | .poolDef tag points, s => takePoolDef tag points s
  | .zoneSetpoint tag zone setpoint mode, s => takeZoneSetpoint tag zone setpoint mode s
  | .supply tag ceiling threshold, s => takeSupply tag ceiling threshold s
  | .door tag group state, s => takeDoor tag group state s
  | .clearFault tag channel, s => takeClearFault tag channel s
  | .sweepNow tag, s => takeSweepNow tag s
  | .start tag, s => takeStart tag s
  | .stop tag, s => takeStop tag s
  | .restart tag, s => takeRestart tag s
  | .save tag, s => takeSave tag s
  | .status tag, s => takeStatus tag s
  | .zoneReport tag zone, s => takeZoneReport tag zone s
  | .channelReport tag channel, s => takeChannelReport tag channel s
  | .allocReport tag, s => takeAllocReport tag s
  | .groupReport tag group, s => takeGroupReport tag group s
  | .inputReport tag input, s => takeInputReport tag input s
  | .stationReport tag station, s => takeStationReport tag station s
  | .readConfig tag kind index, s => takeReadConfig tag kind index s
  | .rotaRead tag first count, s => takeRotaRead tag first count s
  | .unknownKind tag kind, s => takeUnknownKind tag kind s
  | .frameLengthImpossible _, s => s
  | .frameAbandoned _, s => s
  | .frameComplete _ _ _ _, s => s
  | .replySent, s => s
  | .noticeSent, s => s
  | .restartReinitialisation, s => s
  | .powerOn, s => s
  | .undervoltage, s => s
  | .sweepTimerExpiry, s => s
  | .pollReplyWindowExpiry, s => s
  | .pollReplyGapExpiry _, s => s
  | .pollReplyEnd _, s => s
  | .selectorSweepCompletion, s => s
  | .zoneSweepCompletion, s => s
  | .ambientSweepCompletion, s => s
  | .zoneDemandUpdate, s => s
  | .holdTimerExpiry _, s => s
  | .doorLimitTimerExpiry _, s => s
  | .runOnTimerExpiry _, s => s
  | .ambientHoldTimerExpiry, s => s
  | .startTimerExpiry _, s => s
  | .minimumOnExpiry _, s => s
  | .afterRunExpiry _, s => s
  | .minimumOffExpiry _, s => s
  | .faultBackoffExpiry _, s => s
  | .cleanRunExpiry _, s => s
  | .faultSenseReport _ _, s => s
  | .slotDecision, s => s
  | .supplyStalenessExpiry, s => s
  | .linkSilenceExpiry, s => s
  | .exerciseHour _, s => s
  | .exerciseRetryExpiry _, s => s
  | .exerciseSatisfied _, s => s
  | .checkpoint, s => s
  | .configurationWriteEnd _, s => s
  | .counterWriteEnd _, s => s
  | .checkpointWriteEnd _, s => s

/-- A request that passed the link port's checks, or why it did not (R185). -/
def State.takeReading (s : State) (kind tag : Nat) : Reading → State
  | .unknown => s.reply kind tag .unknownKind .nothing
  | .malformed => s.reply kind tag .malformed .nothing
  | .request i => ownerAct i s

/-- The head of the request queue is taken, ending FALLBACK first (R179, R184, R185). -/
def State.takeHead (s : State) : State :=
  match s.link.requests with
  | [] => s
  | f :: _ => (s.endFallback .queuedRequest).takeReading f.kind f.tag (decodeRequest f.kind f.tag f.body)

end Sys2Proof.Machine
end

