-- ==== Sys2Proof/Machine/LinkEvents.lean ====
section
/-! DEFINITION. The events of the coach link (R182, R183, R184, R186): a frame's end, a frame discarded, a reply or a notice
sent. -/

namespace Sys2Proof.Machine

/-- One of the discard counts raised, and the receive frame buffer emptied (R182). -/
def State.discard (s : State) (f : LinkCounts → LinkCounts) (left : List Byte) : State :=
  s.updLink (fun l => { l with counts := f l.counts, rxBuffer := left })

/-- The character after the start byte gives a length below 2 or above 58 (R182 step 2). -/
def State.lengthImpossible (s : State) (length : Nat) : State :=
  if length < 2 ∨ 58 < length then s.discard (fun c => { c with length := countLink c.length }) [] else s

/-- FRAME_LENGTH_IMPOSSIBLE (R182). -/
def execFrameLengthImpossible (length : Nat) (s : State) : Host.Outcome State Fault Refusal :=
  .next (s.event (fun s => s.lengthImpossible length))

/-- A gap of more than 5 ms ends a frame; the character that ends the gap is examined as in hunting (R182 step 4). -/
def State.abandonFrame (s : State) (after : Byte) : State :=
  s.discard (fun c => { c with abandoned := countLink c.abandoned }) (if after = 0xC3 then [after] else [])

/-- FRAME_ABANDONED (R182). -/
def execFrameAbandoned (after : Byte) (s : State) : Host.Outcome State Fault Refusal :=
  .next (s.event (fun s => s.abandonFrame after))

/-- The arrival of a valid frame as the mode controller sees it: in RUN the link silence timer restarts, and in FALLBACK it
ends FALLBACK (R183 step 2, R177, R179). -/
def State.frameHeard (s : State) : State :=
  match s.mode with
  | .run => s.startSilence
  | .fallback => s.leaveFallback .frame
  | .standby => s
  | .windDown => s

/-- A valid frame joins the request queue, and is taken at once where it finds the queue empty; a queue of 4 discards it
(R183 step 3, R184 step 1). -/
def State.enqueue (s : State) (f : Frame) : State :=
  match s.link.requests with
  | [] => (s.updLink (fun l => { l with requests := [f] })).takeHead
  | _ :: _ =>
    if s.link.requests.length < 4 then s.updLink (fun l => { l with requests := l.requests ++ [f] })
    else s.updLink (fun l => { l with counts := { l.counts with queueFull := countLink l.counts.queueFull } })

/-- A valid frame (R183). -/
def State.validFrame (s : State) (f : Frame) : State :=
  ((s.updLink (fun l =>
      { l with counts := { l.counts with framesReceived := countLink l.counts.framesReceived }, rxBuffer := [] })).frameHeard).enqueue f

/-- The last check character of a frame (R182 step 5). -/
def State.frameEnd (s : State) (kind tag : Byte) (body : List Byte) (check : BitVec 16) : State :=
  if 56 < body.length then s.discard (fun c => { c with length := countLink c.length }) []
  else if crc (checkedBytes kind tag body) = check then s.validFrame ⟨kind.toNat, tag.toNat, body⟩
  else s.discard (fun c => { c with check := countLink c.check }) []

/-- FRAME_COMPLETE (R182, R183). -/
def execFrameComplete (kind tag : Byte) (body : List Byte) (check : BitVec 16) (s : State) :
    Host.Outcome State Fault Refusal :=
  .next (s.event (fun s => s.frameEnd kind tag body check))

/-- A reply's last character has gone (R184 step 5). The transmitter is free before the next request is taken, and chooses: a notice
that waits goes between two replies (R186; log 7). The request leaves the queue and the frame behind it is taken. After a RESTART's
reply the part goes into start-up instead (R175). -/
def State.replyGone (s : State) (r : Reply) : State :=
  let free := s.updLink (fun l => { l with tx := .idle })
  if r.isRestart then free.restartShutdown
  else (free.pump.updLink (fun l => { l with requests := l.requests.tail })).takeHead

/-- A reply's last character, where a reply is in transmission. -/
def State.replyEnd (s : State) : State :=
  match s.link.tx with
  | .reply r => s.replyGone r
  | .notice _ => s
  | .idle => s

/-- REPLY_SENT (R184). -/
def execReplySent (s : State) : Host.Outcome State Fault Refusal := .next (s.event State.replyEnd)

/-- A notice's last character has gone (R186). -/
def State.noticeEnd (s : State) : State :=
  match s.link.tx with
  | .notice _ => s.updLink (fun l => { l with tx := .idle })
  | .reply _ => s
  | .idle => s

/-- NOTICE_SENT (R186). -/
def execNoticeSent (s : State) : Host.Outcome State Fault Refusal := .next (s.event State.noticeEnd)

end Sys2Proof.Machine
end

