-- ==== Sys2Proof/Machine/StartUpEvents.lean ====
section
/-! DEFINITION. Start-up and supply as commands (R170, R176). On reaching STANDBY the transmitter is free and makes its first choice
(R170, R186; log 7). -/

namespace Sys2Proof.Machine

/-- RESTART_REINITIALISATION (R176): what follows a RESTART's shutdown; nothing at any other moment. -/
def execRestartReinitialisation (s : State) : Host.Outcome State Fault Refusal :=
  match s.phase with
  | .startUp => .next s.reinitialise.pump
  | .operating => .next s
  | .held => .next s

/-- POWER_ON (R170): the supply returns. It has been absent, so what a loss of supply does has been done (log 11). -/
def execPowerOn (s : State) : Host.Outcome State Fault Refusal := .next s.supplyLost.powerUp.pump

/-- UNDERVOLTAGE (R170): the part is held in reset. -/
def execUndervoltage (s : State) : Host.Outcome State Fault Refusal := .next s.supplyLost

end Sys2Proof.Machine
end

