-- ==== Sys2Proof/Machine/StoreEvents.lean ====
section
/-! DEFINITION. The ends of the settings store's writes (R194, R195). -/

namespace Sys2Proof.Machine

/-- CONFIGURATION_WRITE_END (R194): the configuration area read back, and the counter write begun. -/
def execConfigurationWriteEnd (matched : Bool) (s : State) : Host.Outcome State Fault Refusal :=
  .next (s.event (fun s => s.endConfigurationWrite matched))

/-- COUNTER_WRITE_END (R194): the counter area read back, and the SAVE answered. -/
def execCounterWriteEnd (matched : Bool) (s : State) : Host.Outcome State Fault Refusal :=
  .next (s.event (fun s => s.endCounterWrite matched))

/-- CHECKPOINT_WRITE_END (R195): the counter area read back. -/
def execCheckpointWriteEnd (matched : Bool) (s : State) : Host.Outcome State Fault Refusal :=
  .next (s.event (fun s => s.endCheckpointWrite matched))

end Sys2Proof.Machine
end

