-- ==== Sys2Proof/Machine/SweepEvents.lean ====
section
/-! DEFINITION. The taking of a sweep's completion by the three blocks (R129, R143, R16, R37, R38), and the channel controller's
taking of the zone demands (R29). -/

namespace Sys2Proof.Machine

/-- The selector's tables when the completion is handed on, with the inputs as the passes left them (R152). -/
def Selector.handOn (x : Selector) : Selector := { x with handed := x.inputs }

/-- The input selector takes the completion: its three passes, its notices, and the completion handed on (R143, R152). -/
def State.selectorTakes (s : State) (w : Sweep) : State :=
  ((s.updSel (fun _ => s.selectorPasses.sel.handOn)).notifyAll s.selectorPasses.produced).setSweep
    (some { w with stage := .handedOn false false })

/-- The input selector's completion, where the sweep waits for it. -/
def State.atSelector (s : State) : State :=
  match s.line.inFlight with
  | none => s
  | some w =>
    match w.stage with
    | .selector => s.selectorTakes w
    | .polling => s
    | .handedOn _ _ => s

/-- SELECTOR_SWEEP_COMPLETION (R143). -/
def execSelectorSweepCompletion (s : State) : Host.Outcome State Fault Refusal := .next (s.event State.atSelector)

/-- The zone controller's part of a completion: the input holds in RUN and FALLBACK, and, for a periodic sweep there, the
computation event (R8, R16). DESIGN CHOICE (log 46): nothing in WIND-DOWN, as R16 and R152 say, where R173 says that the input side of
the holds continues. -/
def State.zonesTake (s : State) (kind : SweepKind) : State :=
  match s.mode, kind with
  | .run, .periodic => s.applyInputHolds.computationEvent
  | .run, .onRequest => s.applyInputHolds
  | .fallback, .periodic => s.applyInputHolds.computationEvent
  | .fallback, .onRequest => s.applyInputHolds
  | .standby, _ => s
  | .windDown, _ => s

/-- The zone controller's completion, where the sweep waits for it. -/
def State.atZones (s : State) : State :=
  match s.line.inFlight with
  | none => s
  | some w =>
    match w.stage with
    | .handedOn false ambientTaken => (s.zonesTake w.kind).completionTaken w true ambientTaken
    | .handedOn true _ => s
    | .polling => s
    | .selector => s

/-- ZONE_SWEEP_COMPLETION (R16). -/
def execZoneSweepCompletion (s : State) : Host.Outcome State Fault Refusal := .next (s.event State.atZones)

/-- The channel controller's part of a completion (R37, R38, R39): the ambient status, the inhibits, the combined requests,
and the release of every STARTING or RUNNING channel that is inhibited. -/
def Plant.ambientSweep (mode : PartMode) (out : LogicalInput) (p : Plant) : Plant :=
  let q := { p with chan := p.chan.ambientUpdate out }
  let q := (q.evaluateInhibits (decide (p.chan.ambientStatus = .expired))).formRequests mode
  (q.releaseEach mode (q.chan.channels.indices (fun x => x.active && x.inhibit))).reform mode

/-- The channel controller takes the completion, with OUT as it was handed on (R152). -/
def State.ambientTakes (s : State) : State := s.onPlant (Plant.ambientSweep s.mode (s.handedInput 13))

/-- The channel controller's completion, where the sweep waits for it. -/
def State.atAmbient (s : State) : State :=
  match s.line.inFlight with
  | none => s
  | some w =>
    match w.stage with
    | .handedOn zoneTaken false => s.ambientTakes.completionTaken w zoneTaken true
    | .handedOn _ true => s
    | .polling => s
    | .selector => s

/-- AMBIENT_SWEEP_COMPLETION (R37). -/
def execAmbientSweepCompletion (s : State) : Host.Outcome State Fault Refusal := .next (s.event State.atAmbient)

/-- An update taken: driving values, own requests and targets, then the combined requests (R29 to R33). -/
def Plant.takeUpdate (mode : PartMode) (zones : Table Zone 12) (u : Table ZoneDemand 12) (p : Plant) : Plant :=
  (p.mapCh (fun _ x => channelAtUpdate (drivingValue u zones x.defn) x)).reform mode

/-- The oldest update handed over is taken (R29). DESIGN CHOICE (log 24): in every part mode, with the demands it was formed with. -/
def State.demandUpdate (s : State) : State :=
  match s.chan.updates with
  | [] => s
  | u :: us => (s.updChan (fun c => { c with updates := us })).onPlant (Plant.takeUpdate s.mode s.zones u)

/-- ZONE_DEMAND_UPDATE (R29). -/
def execZoneDemandUpdate (s : State) : Host.Outcome State Fault Refusal := .next (s.event State.demandUpdate)

end Sys2Proof.Machine
end

