-- ==== Sys2Proof/Machine/TimerEvents.lean ====
section
/-! DEFINITION. The timers of zones, door groups, prompt entries and the ambient hold (R17, R37, R108, R111). -/

namespace Sys2Proof.Machine

/-- A zone at the expiry of its running hold timer (R17). -/
def zoneAtHoldExpiry (z : Zone) : Zone :=
  match z.holdTimer with
  | none => z
  | some _ => if z.hold = .inputHold then { z with hold := .inputDecay, holdTimer := none } else z

/-- HOLD_TIMER_EXPIRY (R17). -/
def execHoldTimerExpiry (zone : Nat) (s : State) : Host.Outcome State Fault Refusal :=
  .next (s.event (fun s => s.setZone zone (zoneAtHoldExpiry (s.zone zone))))

/-- An OPEN group's limit timer expires: its flag is set and its DOOR-HOLD zones return to NORMAL (R108, R15). -/
def State.doorLimit (s : State) (g : Nat) : State :=
  match (s.doorGroup g).limitTimer with
  | none => s
  | some _ =>
    (s.setDoor g { s.doorGroup g with limitTimer := none, limitExpired := true }).updZones
      (fun t => t.map (zoneAfterRelease g))

/-- DOOR_LIMIT_TIMER_EXPIRY (R108). -/
def execDoorLimitTimerExpiry (group : Nat) (s : State) : Host.Outcome State Fault Refusal :=
  .next (s.event (fun s => s.doorLimit group))

/-- A prompt table entry's run-on ends: the channel's prompt request becomes false (R111). -/
def State.runOnEnd (s : State) (e : Nat) : State :=
  match (s.promptEntry e).defn, (s.promptEntry e).runOnTimer with
  | some d, some _ =>
    (s.updAlloc (fun a => { a with prompts := a.prompts.set e { s.promptEntry e with runOnTimer := none } })).onPlant
      (fun p => (p.setPrompts false [d.channel]).reform s.mode)
  | _, _ => s

/-- RUN_ON_TIMER_EXPIRY (R111). -/
def execRunOnTimerExpiry (entry : Nat) (s : State) : Host.Outcome State Fault Refusal :=
  .next (s.event (fun s => s.runOnEnd entry))

/-- The ambient hold ends: the status becomes EXPIRED (R37). -/
def ChannelCtl.ambientHoldEnd (c : ChannelCtl) : ChannelCtl :=
  match c.ambientTimer with
  | none => c
  | some _ => { c with ambientStatus := .expired, ambientTimer := none }

/-- AMBIENT_HOLD_TIMER_EXPIRY (R37). -/
def execAmbientHoldTimerExpiry (s : State) : Host.Outcome State Fault Refusal :=
  .next (s.event (fun s => s.updChan ChannelCtl.ambientHoldEnd))

end Sys2Proof.Machine
end

