-- ==== Sys2Proof/Machine/Dispatch.lean ====
section
/-! DEFINITION. The dispatch: one arm per command, each one call of its meaning. -/

namespace Sys2Proof.Machine

def exec (i : Instr) (s : State) : Host.Outcome State Fault Refusal :=
  match i with
  | .partSettings tag body => Sys2Proof.Machine.execPartSettings tag body s
  | .zoneDef tag body => Sys2Proof.Machine.execZoneDef tag body s
  | .zoneDefRemove tag zone => Sys2Proof.Machine.execZoneDefRemove tag zone s
  | .channelDef tag body => Sys2Proof.Machine.execChannelDef tag body s
  | .channelDefRemove tag channel => Sys2Proof.Machine.execChannelDefRemove tag channel s
  | .groupDef tag group peak divisor burst => Sys2Proof.Machine.execGroupDef tag group peak divisor burst s
  | .rotaLoad tag length first entries => Sys2Proof.Machine.execRotaLoad tag length first entries s
  | .promptDef tag entry removeFlag channel doorGroup runOn => Sys2Proof.Machine.execPromptDef tag entry removeFlag channel doorGroup runOn s
  | .promptDefRemove tag entry => Sys2Proof.Machine.execPromptDefRemove tag entry s
  | .stationDef tag body => Sys2Proof.Machine.execStationDef tag body s
  | .stationDefRemove tag station => Sys2Proof.Machine.execStationDefRemove tag station s
  | .inputDef tag input removeFlag primary alternates => Sys2Proof.Machine.execInputDef tag input removeFlag primary alternates s
  | .inputDefRemove tag input => Sys2Proof.Machine.execInputDefRemove tag input s
  | .poolDef tag points => Sys2Proof.Machine.execPoolDef tag points s
  | .zoneSetpoint tag zone setpoint mode => Sys2Proof.Machine.execZoneSetpoint tag zone setpoint mode s
  | .supply tag ceiling threshold => Sys2Proof.Machine.execSupply tag ceiling threshold s
  | .door tag group state => Sys2Proof.Machine.execDoor tag group state s
  | .clearFault tag channel => Sys2Proof.Machine.execClearFault tag channel s
  | .sweepNow tag => Sys2Proof.Machine.execSweepNow tag s
  | .start tag => Sys2Proof.Machine.execStart tag s
  | .stop tag => Sys2Proof.Machine.execStop tag s
  | .restart tag => Sys2Proof.Machine.execRestart tag s
  | .save tag => Sys2Proof.Machine.execSave tag s
  | .status tag => Sys2Proof.Machine.execStatus tag s
  | .zoneReport tag zone => Sys2Proof.Machine.execZoneReport tag zone s
  | .channelReport tag channel => Sys2Proof.Machine.execChannelReport tag channel s
  | .allocReport tag => Sys2Proof.Machine.execAllocReport tag s
  | .groupReport tag group => Sys2Proof.Machine.execGroupReport tag group s
  | .inputReport tag input => Sys2Proof.Machine.execInputReport tag input s
  | .stationReport tag station => Sys2Proof.Machine.execStationReport tag station s
  | .readConfig tag kind index => Sys2Proof.Machine.execReadConfig tag kind index s
  | .rotaRead tag first count => Sys2Proof.Machine.execRotaRead tag first count s
  | .unknownKind tag kind => Sys2Proof.Machine.execUnknownKind tag kind s
  | .frameLengthImpossible length => Sys2Proof.Machine.execFrameLengthImpossible length s
  | .frameAbandoned after => Sys2Proof.Machine.execFrameAbandoned after s
  | .frameComplete kind tag body check => Sys2Proof.Machine.execFrameComplete kind tag body check s
  | .replySent => Sys2Proof.Machine.execReplySent s
  | .noticeSent => Sys2Proof.Machine.execNoticeSent s
  | .restartReinitialisation => Sys2Proof.Machine.execRestartReinitialisation s
  | .powerOn => Sys2Proof.Machine.execPowerOn s
  | .undervoltage => Sys2Proof.Machine.execUndervoltage s
  | .sweepTimerExpiry => Sys2Proof.Machine.execSweepTimerExpiry s
  | .pollReplyWindowExpiry => Sys2Proof.Machine.execPollReplyWindowExpiry s
  | .pollReplyGapExpiry reply => Sys2Proof.Machine.execPollReplyGapExpiry reply s
  | .pollReplyEnd reply => Sys2Proof.Machine.execPollReplyEnd reply s
  | .selectorSweepCompletion => Sys2Proof.Machine.execSelectorSweepCompletion s
  | .zoneSweepCompletion => Sys2Proof.Machine.execZoneSweepCompletion s
  | .ambientSweepCompletion => Sys2Proof.Machine.execAmbientSweepCompletion s
  | .zoneDemandUpdate => Sys2Proof.Machine.execZoneDemandUpdate s
  | .holdTimerExpiry zone => Sys2Proof.Machine.execHoldTimerExpiry zone s
  | .doorLimitTimerExpiry group => Sys2Proof.Machine.execDoorLimitTimerExpiry group s
  | .runOnTimerExpiry entry => Sys2Proof.Machine.execRunOnTimerExpiry entry s
  | .ambientHoldTimerExpiry => Sys2Proof.Machine.execAmbientHoldTimerExpiry s
  | .startTimerExpiry channel => Sys2Proof.Machine.execStartTimerExpiry channel s
  | .minimumOnExpiry channel => Sys2Proof.Machine.execMinimumOnExpiry channel s
  | .afterRunExpiry channel => Sys2Proof.Machine.execAfterRunExpiry channel s
  | .minimumOffExpiry channel => Sys2Proof.Machine.execMinimumOffExpiry channel s
  | .faultBackoffExpiry channel => Sys2Proof.Machine.execFaultBackoffExpiry channel s
  | .cleanRunExpiry channel => Sys2Proof.Machine.execCleanRunExpiry channel s
  | .faultSenseReport channel asserted => Sys2Proof.Machine.execFaultSenseReport channel asserted s
  | .slotDecision => Sys2Proof.Machine.execSlotDecision s
  | .supplyStalenessExpiry => Sys2Proof.Machine.execSupplyStalenessExpiry s
  | .linkSilenceExpiry => Sys2Proof.Machine.execLinkSilenceExpiry s
  | .exerciseHour record => Sys2Proof.Machine.execExerciseHour record s
  | .exerciseRetryExpiry record => Sys2Proof.Machine.execExerciseRetryExpiry record s
  | .exerciseSatisfied record => Sys2Proof.Machine.execExerciseSatisfied record s
  | .checkpoint => Sys2Proof.Machine.execCheckpoint s
  | .configurationWriteEnd matched => Sys2Proof.Machine.execConfigurationWriteEnd matched s
  | .counterWriteEnd matched => Sys2Proof.Machine.execCounterWriteEnd matched s
  | .checkpointWriteEnd matched => Sys2Proof.Machine.execCheckpointWriteEnd matched s

end Sys2Proof.Machine
end

