-- ==== Sys2Proof/Machine/Step.lean ====
section
/-! DEFINITION. One step of the part: the command at the front of the queue, or one millisecond where no command waits (log 3). -/

namespace Sys2Proof.Machine

/-- A step: the front command executed with the queue's rest, or one millisecond of time on an empty queue. -/
def step (s : State) : Host.Outcome State Fault Refusal :=
  match s.pending with
  | [] => .next s.tick
  | c :: rest => exec c (s.setPending rest)

/-- A command put at the front of the queue. -/
def State.withCommand (s : State) (c : Instr) : State := s.setPending (c :: s.pending)

/-- `s` with the command a word spells at the front of its queue; no row of the table carries bits, so no word spells one. -/
def State.withFetchWord (s : State) (nbits w : Nat) : State :=
  match decodeTableWord nbits w with
  | none => s
  | some c => s.withCommand c

end Sys2Proof.Machine
end

