-- ==== Sys2Proof/Machine/Encode.lean ====
section
/-! DEFINITION. What the part sends, in bytes (R197, 11.5 to 11.7): result codes, reports, records, notices, and the frame in
transmission. -/

namespace Sys2Proof.Machine

/-! ## Codes -/

def partModeCode : PartMode → Nat
  | .standby => 0
  | .run => 1
  | .windDown => 2
  | .fallback => 3

def startKindCode : StartKind → Nat
  | .powerOn => 0
  | .restart => 1

def holdStateCode : HoldState → Nat
  | .normal => 0
  | .doorHold => 1
  | .inputHold => 2
  | .inputDecay => 3

def channelStateCode : ChannelState → Nat
  | .idle => 0
  | .waiting => 1
  | .starting => 2
  | .running => 3
  | .stopping => 4
  | .lockout => 5
  | .faulted => 6
  | .latched => 7

def ambientStatusCode : AmbientStatus → Nat
  | .valid => 0
  | .held => 1
  | .expired => 2

def levelStatusCode : LevelStatus → Nat
  | .none => 0
  | .full => 1
  | .levelLimited => 2

def supplySourceCode : SupplySource → Nat
  | .supply => 0
  | .safe => 1

def qualityCode : Quality → Nat
  | .never => 0
  | .good => 1
  | .missing => 2
  | .outOfRange => 3

def pollOutcomeCode : PollOutcome → Nat
  | .none => 0
  | .replied => 1
  | .noReply => 2
  | .checkFail => 3

def inputStateCode : InputState → Nat
  | .onPrimary => 0
  | .substituted => 1
  | .invalid => 2

/-- The source of a logical input in one byte (R197). -/
def inputSourceCode : InputSource → Nat
  | .primary => 0
  | .alternate1 => 1
  | .alternate2 => 2
  | .pool k => 3 + k
  | .none => 7

/-- The sweep kind, NONE 0 (R197, 11.7). -/
def sweepKindCode : Option SweepKind → Nat
  | none => 0
  | some .periodic => 1
  | some .onRequest => 2

def loadStatusCode : LoadStatus → Nat
  | .loaded => 0
  | .defaulted => 1
  | .kept => 2

def writeStatusCode : WriteStatus → Nat
  | .none => 0
  | .good => 1
  | .writeFailed => 2

def resultCode : ResultCode → Nat
  | .done => 0
  | .clamped => 1
  | .accepted => 2
  | .busy => 3
  | .wrongMode => 4
  | .badField => 5
  | .noSuchItem => 6
  | .unknownKind => 7
  | .malformed => 8
  | .configFault => 9

/-- The validation reasons, numbered 1 to 23 (R197). -/
def reasonCode : Reason → Nat
  | .noZone => 1
  | .noChannel => 2
  | .panelPoint => 3
  | .servedZone => 4
  | .thresholds => 5
  | .ambientWindow => 6
  | .prerequisite => 7
  | .prerequisiteChain => 8
  | .exerciseCount => 9
  | .peakBelowStart => 10
  | .noRefill => 11
  | .rotaEntry => 12
  | .promptChannel => 13
  | .duplicateAddress => 14
  | .panelZone => 15
  | .pointTotal => 16
  | .noInput => 17
  | .primaryPoint => 18
  | .alternatePoint => 19
  | .alternateRepeat => 20
  | .poolPoint => 21
  | .poolRepeat => 22
  | .poolOverlap => 23

/-! ## Fields -/

/-- A one-byte two's-complement field. -/
def i8 (i : Int) : List Byte := u8 (i % 256).toNat

/-- Flags packed in one byte, bits 0 upward in the order listed (R197). -/
def packed : List Bool → Nat
  | [] => 0
  | b :: bs => (if b then 1 else 0) + 2 * packed bs

/-- A list field: its count and its entries (R197). -/
def listField {α : Type} (f : α → List Byte) (l : List α) : List Byte := u8 l.length ++ l.flatMap f

def PointRef.bytes (p : PointRef) : List Byte := u8 p.station ++ u8 p.number

/-- A point that may be absent (R197; log 16). -/
def optPoint : Option PointRef → List Byte
  | some p => p.bytes
  | none => [0xFF, Config.absentPointNumber]

/-- A last validation in four bytes (R197). -/
def Validation.bytes : Validation → List Byte
  | .none => [0, 0, 0, 0]
  | .passed => [1, 0, 0, 0]
  | .failed f => u8 2 ++ u8 f.kind ++ u8 f.index ++ u8 (reasonCode f.reason)

/-! ## Reports (11.7) -/

/-- ZONE-REPORT, 18 bytes. -/
def ZoneReport.bytes (r : ZoneReport) : List Byte :=
  u8 r.zone ++ i16 r.commandedSetpoint ++ u8 (zoneModeCode r.commandedMode) ++ i16 r.effectiveSetpoint ++
  u8 (zoneModeCode r.effectiveMode) ++ i8 r.nudge ++ i16 r.inputValue ++ i32 r.integral ++ i16 r.demand ++
  u8 (holdStateCode r.hold) ++ u8 r.holdSeconds

/-- CHANNEL-REPORT, 20 bytes. -/
def ChannelReport.bytes (r : ChannelReport) : List Byte :=
  u8 r.channel ++ u8 (channelStateCode r.state) ++ u16 r.timerSeconds ++ flag8 r.minOnExpired ++
  u8 (packed [r.own, r.drawn, r.prompt, r.exercise, r.combined]) ++ flag8 r.inhibit ++
  u8 (ambientStatusCode r.ambientStatus) ++ i16 r.ambientValue ++ u16 r.driving ++ u8 r.target ++ u8 r.applied ++
  u8 (levelStatusCode r.level) ++ u16 r.counted ++ u8 r.faults ++ flag8 r.sense ++ opt8 r.position

/-- ALLOC-REPORT, 28 bytes. -/
def AllocReport.bytes (r : AllocReport) : List Byte :=
  u16 r.ceiling ++ u8 r.threshold ++ u8 (supplySourceCode r.source) ++ flag8 r.supplyStale ++ u8 r.stalenessSeconds ++
  u8 r.preemptionWidth ++ u16 r.total ++ u8 r.waiting ++ u8 r.starting ++ u8 r.running ++ u8 r.stopping ++
  u8 r.rotaLength ++ u8 r.rotaPosition ++ r.cursors.flatMap u8 ++ u16 r.displacementRefused ++ u8 r.grants ++
  u8 r.releases ++ u8 r.displacements

/-- GROUP-REPORT, 25 bytes. -/
def GroupReport.bytes (r : GroupReport) : List Byte :=
  u8 r.group ++ u16 r.peak ++ u8 r.divisor ++ u16 r.burst ++ u16 r.refill ++ u32 r.capacity ++ i32 r.credit ++
  u16 r.load ++ u8 r.starting ++ u8 r.running ++ u8 r.stopping ++ u16 r.creditRefusals ++ u16 r.peakRefusals

/-- One point of STATION-REPORT, 5 bytes. -/
def Point.bytes (p : Point) : List Byte :=
  u8 (pointKindCode p.kind * 4 + qualityCode p.quality) ++ i16 p.value ++ u8 p.badCount ++ u8 p.goodCount

/-- The five sweep figures. -/
def SweepFigures.bytes (f : SweepFigures) : List Byte :=
  u8 (sweepKindCode f.kind) ++ u8 f.readPolled ++ u8 f.replied ++ u8 f.writes ++ u8 f.writesReplied

/-- STATION-REPORT, up to 49 bytes. -/
def StationReport.bytes (r : StationReport) : List Byte :=
  u8 r.station ++ u8 r.address ++ flag8 r.enabled ++ flag8 (!r.present) ++ u8 r.missCount ++
  u8 (packed [r.writePending, r.changedInFlight]) ++ u8 (pollOutcomeCode r.lastRead) ++
  u8 (pollOutcomeCode r.lastWrite) ++ u16 r.writeFailures ++ listField Point.bytes r.points ++
  u8 (sweepKindCode r.inFlight) ++ u16 r.overruns ++ r.lastSweep.bytes

/-- INPUT-REPORT, up to 44 bytes. -/
def InputReport.bytes (r : InputReport) : List Byte :=
  u8 r.input ++ flag8 r.evaluated ++ optPoint r.primary ++ listField PointRef.bytes r.alternates ++
  u8 (inputStateCode r.state) ++ u8 (inputSourceCode r.source) ++ optPoint r.sourcePoint ++ i16 r.value ++
  flag8 r.holding ++ flag8 r.seenGood ++ u8 r.badCount ++ u8 r.verifyCount ++ opt8 r.position ++
  listField u8 r.candidates ++ u8 r.poolLength ++ listField u8 r.freeList ++ r.lentTo.flatMap opt8

/-- One door group in STATUS: the state with limit expired in bit 1, and the limit timer. -/
def DoorStatus.bytes (d : DoorStatus) : List Byte := u8 (packed [d.isOpen, d.limitExpired]) ++ u16 d.limitSeconds

/-- One exercise record in STATUS. -/
def ExerciseStatus.bytes (x : ExerciseStatus) : List Byte :=
  opt8 x.bound ++ u16 x.idleHours ++ flag8 x.due ++ u16 x.retryMinutes ++ u16 x.runSeconds

/-- STATUS, 55 bytes. -/
def StatusReport.bytes (r : StatusReport) : List Byte :=
  u8 (partModeCode r.mode) ++ u8 (startKindCode r.startKind) ++ r.lastValidation.bytes ++ u16 r.fallbackSeconds ++
  u8 (packed [r.fallbackFlag, r.supplyStale, r.noticesLost]) ++ u16 r.counts.framesReceived ++ u16 r.counts.length ++
  u16 r.counts.abandoned ++ u16 r.counts.check ++ u16 r.counts.queueFull ++ u8 (lineRateCode r.lineRate) ++
  u8 r.requests ++ u8 r.notices ++ u8 r.silenceSeconds ++ u8 (loadStatusCode r.configLoad) ++
  u8 (loadStatusCode r.counterLoad) ++ u8 (writeStatusCode r.configWrite) ++ u8 (writeStatusCode r.counterWrite) ++
  r.doors.flatMap DoorStatus.bytes ++ r.exercise.flatMap ExerciseStatus.bytes

/-! ## Records of READ-CONFIG, as the defining request carries them, remove flag 0 (R189, 11.6) -/

def Settings.bytes (x : Settings) : List Byte :=
  u16 x.safeCeiling ++ u8 x.safeThreshold ++ u8 x.preemptionWidth ++ i16 x.fallbackSetpoint ++ u8 x.linkSilence ++
  u8 (yesNoCode x.autoStart) ++ u8 (yesNoCode x.keepOnRestart) ++ u16 x.doorHoldLimit ++ u8 x.agreementTolerance ++
  u16 x.exerciseInterval ++ u16 x.exerciseDuration ++ u8 (lineRateCode x.lineRate)

def ZoneDef.bytes (zone : Nat) (d : ZoneDef) : List Byte :=
  u8 zone ++ u8 0 ++ opt8 d.doorGroup ++ optPoint d.panel ++ i16 d.initialSetpoint ++ u8 (zoneModeCode d.initialMode) ++
  u8 d.kp ++ u8 d.ki ++ u8 d.deadband ++ u16 d.rateLimit ++ u16 d.ventFloor ++ u8 d.nudgeLimit

def ChannelDef.bytes (channel : Nat) (d : ChannelDef) : List Byte :=
  u8 channel ++ u8 0 ++ u8 (driveKindCode d.kind) ++ u8 (directionCode d.direction) ++ listField u8 d.served ++
  u16 d.tOn ++ u16 d.tOff ++ u8 d.lmin ++ u16 d.rated ++ u16 d.surge ++ u8 d.startTime ++ u16 d.minOn ++
  u16 d.minOff ++ u16 d.afterRun ++ u16 d.afterRunCurrent ++ u8 (restartCode d.restartAllowed) ++
  opt8 d.prerequisite ++ u8 d.priority ++ u8 d.group ++ opt16 d.ambientLow ++ opt16 d.ambientHigh ++
  u8 (failActionCode d.failAction) ++ u8 (yesNoCode d.exercise)

def GroupDef.bytes (group : Nat) (d : GroupDef) : List Byte := u8 group ++ u16 d.peak ++ u8 d.divisor ++ u16 d.burst

def PromptDef.bytes (entry : Nat) (d : PromptDef) : List Byte :=
  u8 entry ++ u8 0 ++ u8 d.channel ++ u8 d.doorGroup ++ u8 d.runOn

def StationDef.bytes (station : Nat) (d : StationDef) : List Byte :=
  u8 station ++ u8 0 ++ u8 d.address ++ u8 (yesNoCode d.enabled) ++ listField (fun k => u8 (pointKindCode k)) d.kinds ++
  u8 (policyCode d.policy) ++ opt8 d.panelZone

def InputDef.bytes (input : Nat) (d : InputDef) : List Byte :=
  u8 input ++ u8 0 ++ optPoint d.primary ++ listField PointRef.bytes d.alternates

def ConfigRecord.bytes : ConfigRecord → List Byte
  | .settings x => x.bytes
  | .zone n d => d.bytes n
  | .channel n d => d.bytes n
  | .group n d => d.bytes n
  | .prompt n d => d.bytes n
  | .station n d => d.bytes n
  | .input n d => d.bytes n
  | .pool points => listField PointRef.bytes points

/-! ## Replies and notices -/

/-- What follows the result code (R185, R197, 11.7). -/
def Content.bytes : Content → List Byte
  | .nothing => []
  | .mode m => u8 (partModeCode m)
  | .field i => u8 i
  | .configFault f => u8 f.kind ++ u8 f.index ++ u8 (reasonCode f.reason)
  | .supply ceiling threshold => u16 ceiling ++ u8 threshold
  | .door g isOpen granted notGranted => u8 g ++ flag8 isOpen ++ u8 granted ++ u8 notGranted
  | .stopping count => u8 count
  | .sweep figures => figures.bytes
  | .rota length position firstSlot entries =>
      u8 length ++ u8 position ++ flag8 firstSlot ++ listField opt8 entries
  | .zone r => r.bytes
  | .channel r => r.bytes
  | .alloc r => r.bytes
  | .group r => r.bytes
  | .input r => r.bytes
  | .station r => r.bytes
  | .status r => r.bytes
  | .config r => r.bytes

def Reply.body (r : Reply) : List Byte := u8 (resultCode r.code) ++ r.content.bytes

/-- A reply's kind: its request's kind with bit 7 set (R197). -/
def replyKind (kind : Nat) : Byte := BitVec.ofNat 8 kind ||| 0x80

/-- A notice's kind, 60 to 6A hexadecimal (11.5). -/
def Notice.kind : Notice → Byte
  | .channelFaulted _ _ _ => 0x60
  | .channelLatched _ => 0x61
  | .inputSubstituted _ _ _ _ => 0x62
  | .inputInvalid _ _ => 0x63
  | .inputReinstated _ _ => 0x64
  | .fallbackEntered _ _ => 0x65
  | .fallbackLeft _ _ => 0x66
  | .exerciseDone _ _ => 0x67
  | .exercisePostponed _ _ _ => 0x68
  | .windDownDone _ _ _ => 0x69
  | .storeFault _ _ => 0x6A

/-- A notice's body: its contents in the order of the notice table (R197). PRESUMED (log 49): the fields' widths. -/
def Notice.body : Notice → List Byte
  | .channelFaulted channel state count => u8 channel ++ u8 (channelStateCode state) ++ u8 count
  | .channelLatched channel => u8 channel
  | .inputSubstituted input source point value =>
      u8 input ++ u8 (inputSourceCode source) ++ point.bytes ++ i16 value
  | .inputInvalid input value => u8 input ++ i16 value
  | .inputReinstated input value => u8 input ++ i16 value
  | .fallbackEntered ceiling threshold => u16 ceiling ++ u8 threshold
  | .fallbackLeft seconds cause => u16 seconds ++ u8 (match cause with | .frame => 0 | .queuedRequest => 1)
  | .exerciseDone channel hours => u8 channel ++ u16 hours
  | .exercisePostponed channel cause seconds =>
      u8 channel ++ u8 (match cause with | .release => 0 | .fault => 1) ++ u16 seconds
  | .windDownDone lockout faulted latched => u8 lockout ++ u8 faulted ++ u8 latched
  | .storeFault area cause =>
      u8 (match area with | .configuration => 0 | .counter => 1) ++
      u8 (match cause with | .badChecksum => 0 | .writeFailed => 1)

/-- The frame in transmission, from its start byte to its last check character; nothing while the transmitter is idle
(R182, R186, R187). -/
def Transmitter.bytes : Transmitter → List Byte
  | .idle => []
  | .reply r => frameBytes (replyKind r.kind) (BitVec.ofNat 8 r.tag) r.body
  | .notice n => frameBytes n.kind 0 n.body

end Sys2Proof.Machine
end

