-- ==== Sys2Proof/Safety.lean ====
section
/-! DEFINITION. The terms the statements are made in: a part that can take a request at once, an answer, the factory contents written
out, and the invariants of the machine. -/

namespace Sys2Proof.Machine

/-! ## Requests and answers -/

/-- The part operates and holds no request, so that a request that comes is taken at once (R184). -/
def State.Ready (s : State) : Prop := s.phase = .operating ∧ s.link.requests = []

/-- The part returned from FALLBACK to RUN (R179): FALLBACK-LEFT, the link silence timer at its setting, the supply staleness
timer at 5 s. -/
def State.backInRun (s : State) (cause : LeftCause) : State :=
  let n := s.notify (.fallbackLeft (s.ctl.fallbackTime / 1000) cause)
  { n with
    ctl := { n.ctl with mode := .run }
    alloc := { n.alloc with stalenessTimer := some 5000 }
    link := { n.link with silenceTimer := some (s.settings.linkSilence * 1000) } }

/-- The part as the taking of a request finds it: out of FALLBACK (R179), and unchanged in any other mode. -/
def State.atTaking (s : State) : State := if s.ctl.mode = .fallback then s.backInRun .queuedRequest else s

/-- `s` with the request `i` at the head of the request queue. -/
def State.heading (s : State) (i : Instr) : State := { s with link := { s.link with requests := [frameOf i] } }

/-- The request `i` at the head with no reply formed, and the transmitter's choice made (R184 step 3, R186). -/
def State.awaiting (s : State) (i : Instr) : State := (s.heading i).pump

/-- The reply to the request `i` (R185). -/
def replyTo (i : Instr) (code : ResultCode) (content : Content) : Reply :=
  { kind := (frameOf i).kind, tag := (frameOf i).tag, code := code, content := content }

/-- The request `i` at the head with its reply formed, and the transmitter's choice made (R184 step 4, R186). -/
def State.answered (s : State) (i : Instr) (code : ResultCode) (content : Content) : State :=
  { s with link := { s.link with requests := [frameOf i], ready := some (replyTo i code content) } }.pump

/-- What `u` shows of a request `i` taken from `s` and answered: the request at the head, and its reply in transmission where the
transmitter was free, or ready where it was not (R184, R186). -/
def Answers (s u : State) (i : Instr) (code : ResultCode) (content : Content) : Prop :=
  u.link.requests = [frameOf i] ∧
  (s.link.tx = .idle → u.link.tx = .reply (replyTo i code content) ∧ u.link.ready = none) ∧
  (s.link.tx ≠ .idle → u.link.tx = s.link.tx ∧ u.link.ready = some (replyTo i code content))

/-- WRONG-MODE with the part mode, and nothing else (R185). -/
def State.refusesMode (s : State) (i : Instr) : State := s.answered i .wrongMode (.mode s.ctl.mode)

/-- A RESTART has been taken and its reply has not gone (R175). -/
def State.RestartTaken (s : State) : Prop :=
  (∃ r, s.link.ready = some r ∧ r.kind = 0x1A ∧ r.code = .done) ∨ (∃ r, s.link.tx = .reply r ∧ r.kind = 0x1A ∧ r.code = .done)

/-- The body length is not one that section 11.5 permits for the request kind (R185). -/
def wrongLength (kind : Nat) (body : List Byte) : Bool :=
  match kind with
  | 0x01 => decide (body.length ≠ 17)
  | 0x02 => decide (body.length ≠ 8 ∧ body.length ≠ 16)
  | 0x03 => decide (body.length < 5 ∨ body.length ≠ 33 + (body.getD 4 0).toNat)
  | 0x04 => decide (body.length ≠ 6)
  | 0x05 => decide (body.length < 3 ∨ body.length ≠ 3 + (body.getD 2 0).toNat)
  | 0x06 => decide (body.length ≠ 5)
  | 0x07 => decide (body.length < 5 ∨ body.length ≠ 7 + (body.getD 4 0).toNat)
  | 0x08 => decide (body.length < 5 ∨ body.length ≠ 5 + 2 * (body.getD 4 0).toNat)
  | 0x09 => decide (body.length < 1 ∨ body.length ≠ 1 + 2 * (body.getD 0 0).toNat)
  | 0x10 => decide (body.length ≠ 4)
  | 0x11 => decide (body.length ≠ 3)
  | 0x12 => decide (body.length ≠ 2)
  | 0x13 => decide (body.length ≠ 1)
  | 0x21 => decide (body.length ≠ 1)
  | 0x22 => decide (body.length ≠ 1)
  | 0x24 => decide (body.length ≠ 1)
  | 0x25 => decide (body.length ≠ 1)
  | 0x26 => decide (body.length ≠ 1)
  | 0x27 => decide (body.length ≠ 2)
  | 0x28 => decide (body.length ≠ 2)
  | _ => requestKinds.contains kind && decide (body.length ≠ 0)

end Sys2Proof.Machine

namespace Sys2Proof

/-- A command that a frame carries: a request, or a frame of unknown kind. -/
def Instr.isRequest (i : Instr) : Bool := (encodeRequest i).isSome

/-- The configuration requests: taken in STANDBY alone (10.2, the request catalogue). -/
def Instr.isConfiguration : Instr → Bool
  | .partSettings _ _ => true
  | .zoneDef _ _ => true
  | .zoneDefRemove _ _ => true
  | .channelDef _ _ => true
  | .channelDefRemove _ _ => true
  | .groupDef _ _ _ _ _ => true
  | .rotaLoad _ _ _ _ => true
  | .promptDef _ _ _ _ _ _ => true
  | .promptDefRemove _ _ => true
  | .stationDef _ _ => true
  | .stationDefRemove _ _ => true
  | .inputDef _ _ _ _ _ => true
  | .inputDefRemove _ _ => true
  | .poolDef _ _ => true
  | _ => false

end Sys2Proof

namespace Sys2Proof.Machine

/-! ## Factory contents, written out -/

/-- The undefined zone record (section 1.1). -/
def factoryZone : Zone :=
  { defined := false
    defn := { doorGroup := none, panel := none, initialSetpoint := 210, initialMode := .off, kp := 20, ki := 4,
              deadband := 5, rateLimit := 100, ventFloor := 300, nudgeLimit := 10 }
    commandedSetpoint := 210, commandedMode := .off, effectiveSetpoint := 210, effectiveMode := .off, nudge := 0,
    inputValue := 0, integral := 0, demand := 0, hold := .normal, holdTimer := none }

/-- The undefined channel record (section 2.1), with the fault-sense level recorded. -/
def factoryChannel (sense : Bool) : Channel :=
  { defined := false
    defn := { kind := .switch, direction := .air, served := [], tOn := 1, tOff := 0, lmin := 100, rated := 0,
              surge := 0, startTime := 0, minOn := 0, minOff := 0, afterRun := 0, afterRunCurrent := 0,
              restartAllowed := false, prerequisite := none, priority := 7, group := 0, ambientLow := none,
              ambientHigh := none, failAction := .pass, exercise := false }
    state := .idle, timer := none, minOnExpired := false, cleanRun := none, own := false, drawn := false,
    prompt := false, exercise := false, combined := false, inhibit := false, fresh := true, driving := 0, target := 0,
    applied := 0, faults := 0, sense := sense }

/-- The undefined station record (section 6.2). -/
def factoryStation : Station :=
  { defined := false
    defn := { address := 1, enabled := false, kinds := [], policy := .none, panelZone := none }
    present := true, missCount := 0, writePending := true, changedInFlight := false, lastRead := .none,
    lastWrite := .none, writeFailures := 0, points := [] }

/-- The live part of a logical input that R136 and R155 set. -/
def freshInput (d : InputDef) : LogicalInput :=
  { defn := d, state := .onPrimary, source := .primary, value := 0, holding := true, seenGood := false, badCount := 0,
    verifyCount := 0 }

/-- The live part of a zone that R1 and R22 set. -/
def freshZone (d : ZoneDef) : Zone :=
  { defined := true, defn := d, commandedSetpoint := d.initialSetpoint, commandedMode := d.initialMode,
    effectiveSetpoint := d.initialSetpoint, effectiveMode := d.initialMode, nudge := 0, inputValue := 0, integral := 0,
    demand := 0, hold := .normal, holdTimer := none }

/-- The live part of a station that R118 and R133 set, each of its points at NEVER. -/
def freshStation (d : StationDef) : Station :=
  { defined := true, defn := d, present := true, missCount := 0, writePending := true, changedInFlight := false,
    lastRead := .none, lastWrite := .none, writeFailures := 0
    points := d.kinds.map (fun k =>
      { kind := k, value := 0, quality := .never, badCount := 0, goodCount := 0 }) }

/-! ## The spec's figures, written out -/

/-- `x` held within `lo..hi`. -/
def between (lo hi x : Int) : Int := max lo (min hi x)

/-- A timer's remaining time in whole seconds, rounded up, 0 when stopped. -/
def wholeSeconds : Option Nat → Nat
  | none => 0
  | some ms => (ms + 999) / 1000

/-- A timer started at `n` seconds; a time of 0 starts none. -/
def startedAt (n : Nat) : Option Nat := if n = 0 then none else some (n * 1000)

/-- What STATUS reports with `requests` frames in the request queue (R188, section 11.7). Times that count up are rounded down (log
26), and a stopped run timer is reported at the time it holds (log 42). -/
def State.statusGathered (t : State) (requests : Nat) : StatusReport :=
  { mode := t.ctl.mode, startKind := t.ctl.startKind, lastValidation := t.ctl.lastValidation
    fallbackSeconds := t.ctl.fallbackTime / 1000, fallbackFlag := t.ctl.fallbackFlag
    supplyStale := t.ctl.supplyStale, noticesLost := t.link.noticesLost, counts := t.link.counts
    lineRate := t.link.lineRate, requests := requests, notices := t.link.notices.length
    silenceSeconds := wholeSeconds t.link.silenceTimer, configLoad := t.store.configLoad
    counterLoad := t.store.counterLoad, configWrite := t.store.configWrite, counterWrite := t.store.counterWrite
    doors := t.doors.rows.map (fun d => ⟨d.isOpen, d.limitExpired, wholeSeconds d.limitTimer⟩)
    exercise := t.chan.exercise.rows.map (fun x =>
      { bound := x.bound, idleHours := x.idleHours, due := x.due
        retryMinutes := match x.retry with | some ms => (ms + 59999) / 60000 | none => 0
        runSeconds := x.runTime / 1000 }) }

/-- The notice queue with one more notice, or the notices-lost flag at a queue of 16 (R187). -/
def LinkPort.withNotice (l : LinkPort) (n : Notice) : LinkPort :=
  if l.notices.length < 16 then { l with notices := l.notices ++ [n] } else { l with noticesLost := true }

def State.withNotice (s : State) (n : Notice) : State := { s with link := s.link.withNotice n }

/-! ## One record replaced -/

def State.withZone (s : State) (n : Nat) (z : Zone) : State := { s with zones := s.zones.set1 n z }

def State.withDoor (s : State) (g : Nat) (d : DoorGroup) : State := { s with doors := s.doors.set1 g d }

def State.withChannel (s : State) (c : Nat) (x : Channel) : State :=
  { s with chan := { s.chan with channels := s.chan.channels.set c x } }

def State.withRecord (s : State) (r : Nat) (x : ExerciseRecord) : State :=
  { s with chan := { s.chan with exercise := s.chan.exercise.set r x } }

def State.withGroup (s : State) (g : Nat) (x : ShareGroup) : State :=
  { s with alloc := { s.alloc with groups := s.alloc.groups.set g x } }

def State.withPrompt (s : State) (e : Nat) (x : PromptEntry) : State :=
  { s with alloc := { s.alloc with prompts := s.alloc.prompts.set e x } }

def State.withStation (s : State) (i : Nat) (x : Station) : State :=
  { s with line := { s.line with stations := s.line.stations.set i x } }

def State.withSweep (s : State) (w : Option Sweep) : State := { s with line := { s.line with inFlight := w } }

/-! ## The zones -/

/-- A change of zone `n`'s effective values as the station line sees it (R7, R127): every station whose panel zone it is has its
write-pending flag set, and its changed-in-flight flag too while a WRITE-POLL to it is outstanding. -/
def Station.told (n : Nat) (writing : Bool) (x : Station) : Station :=
  if x.defined = true ∧ x.defn.panelZone = some n then
    { x with writePending := true, changedInFlight := x.changedInFlight || writing }
  else x

/-- A WRITE-POLL is outstanding to station `i`, which no STATION-DEF has disowned. -/
def State.writing (s : State) (i : Nat) : Bool :=
  match s.line.inFlight with
  | some w =>
    match w.poll with
    | some p => decide (p.station = i) && !p.disowned && (match p.kind with | .write _ _ => true | .read => false)
    | none => false
  | none => false

/-- Zone `n`'s record replaced, and every station told where its effective values are new (R7). -/
def State.zoneReplaced (s : State) (n : Nat) (z : Zone) : State :=
  let t := s.withZone n z
  if z.effectiveSetpoint = (s.zone n).effectiveSetpoint ∧ z.effectiveMode = (s.zone n).effectiveMode then t
  else { t with line := { t.line with stations := t.line.stations.mapIdx (fun i x => x.told n (s.writing i)) } }

/-- The whole zone table replaced, and every station told where its panel zone's effective values are new (R7). -/
def State.zonesReplaced (s : State) (t : Table Zone 12) : State :=
  { s with
    zones := t
    line := { s.line with stations := s.line.stations.mapIdx (fun i x =>
      match x.defn.panelZone with
      | none => x
      | some n =>
        let new := t.get1 factoryZone n
        if new.defined = true ∧
            ¬ (new.effectiveSetpoint = (s.zone n).effectiveSetpoint ∧ new.effectiveMode = (s.zone n).effectiveMode) then
          x.told n (s.writing i)
        else x) } }

/-- Logical input Zn counts as invalid (R16). -/
def LogicalInput.lost (x : LogicalInput) : Bool :=
  decide (x.state = .invalid ∨ (x.state = .onPrimary ∧ x.holding = true ∧ x.seenGood = false))

/-- The nudge a computation event reads for a zone (R5). -/
def State.nudgeRead (s : State) (z : Zone) : Int :=
  match z.defn.panel with
  | none => 0
  | some p =>
    match s.point p with
    | none => 0
    | some x => match x.quality with
      | .good => x.value
      | .never => 0
      | .missing => 0
      | .outOfRange => 0

/-- The bounds lo and hi of an effective mode (R10). -/
def ZoneMode.bounds : ZoneMode → Int × Int
  | .auto => (-1000, 1000)
  | .heat => (0, 1000)
  | .cool => (-1000, 0)
  | .vent => (0, 0)
  | .off => (0, 0)

/-- R9 to R13 for a zone whose effective values are formed: `changed` says that the effective mode is new, `input` is the value
of its logical input. -/
def Zone.computed (changed : Bool) (input : Int) (z : Zone) : Zone :=
  let lo := z.effectiveMode.bounds.1
  let hi := z.effectiveMode.bounds.2
  let e := between (-200) 200 (z.effectiveSetpoint - input)
  let eff := if e.natAbs ≤ z.defn.deadband then 0 else if 0 < e then e - z.defn.deadband else e + z.defn.deadband
  let p := z.defn.kp * eff
  let before := if changed then 0 else z.integral
  let candidate := between (-64000) 64000 (before + z.defn.ki * eff)
  let d := p + candidate.tdiv 64
  let frozen := (hi < d ∧ 0 < eff) ∨ (d < lo ∧ eff < 0)
  let idle := z.effectiveMode = .vent ∨ z.effectiveMode = .off
  let i := if idle then 0 else if frozen then before else candidate
  let raw := if idle then p else p + i.tdiv 64
  let step := between (-(z.defn.rateLimit : Int)) z.defn.rateLimit (between lo hi raw - z.demand)
  { z with inputValue := input, integral := i, demand := between lo hi (z.demand + step) }

/-- A defined zone at a computation event in RUN or FALLBACK, in the hold state the sweep has left it, on the inputs handed on (R5, R6,
R8 to R13, R18, R19, R152). -/
def State.zoneComputed (s : State) (n : Nat) (z : Zone) : Zone :=
  let nudge := s.nudgeRead z
  let limit : Int := z.defn.nudgeLimit
  let base := if s.ctl.mode = .fallback then s.settings.fallbackSetpoint else z.commandedSetpoint
  let mode := if s.ctl.mode = .fallback then .auto else z.commandedMode
  let changed := decide (mode ≠ z.effectiveMode)
  let y : Zone :=
    { z with nudge := nudge, effectiveSetpoint := between 160 300 (base + between (-limit) limit (nudge * 5)),
             effectiveMode := mode }
  let lo := mode.bounds.1
  let hi := mode.bounds.2
  let toward := if 10 < z.demand then z.demand - 10 else if z.demand < -10 then z.demand + 10 else 0
  match z.hold with
  | .normal => y.computed changed (s.handedInput n).value
  | .doorHold => if changed then { y with integral := 0, demand := between lo hi z.demand } else y
  | .inputHold => if changed then { y with integral := 0, demand := between lo hi z.demand } else y
  | .inputDecay => { y with integral := if changed then 0 else z.integral, demand := between lo hi toward }

/-- A defined zone after the input side of the hold states at a sweep completion, on the inputs handed on (R16, R152). -/
def State.zoneHeld (s : State) (n : Nat) (z : Zone) : Zone :=
  let lost := (s.handedInput n).lost
  let doorDue := match z.defn.doorGroup with
    | none => false
    | some g => (s.doorGroup g).isOpen && decide (0 < s.settings.doorHoldLimit) && !(s.doorGroup g).limitExpired
  match z.hold with
  | .normal => if lost then { z with hold := .inputHold, holdTimer := some 60000 } else z
  | .doorHold => if lost then { z with hold := .inputHold, holdTimer := some 60000 } else z
  | .inputHold => if lost then z else { z with hold := if doorDue then .doorHold else .normal, holdTimer := none }
  | .inputDecay => if lost then z else { z with hold := if doorDue then .doorHold else .normal, holdTimer := none }

/-! ## The channels -/

/-- The driving value of a channel from the demands and modes handed over and the zones' vent floors (R29). -/
def drivenBy (u : Table ZoneDemand 12) (zones : Table Zone 12) (d : ChannelDef) : Nat :=
  let figures := d.served.map (fun z =>
    let y := u.get1 {} z
    match d.direction with
    | .heat => y.demand.toNat
    | .cool => (-y.demand).toNat
    | .air => if y.mode = .off then 0 else max y.demand.natAbs (zones.get1 {} z).defn.ventFloor)
  figures.foldl max 0

/-- The PWM target at driving value `v` (R33); 0 for a SWITCH channel. -/
def ChannelDef.aim (d : ChannelDef) (v : Nat) : Nat :=
  match d.kind with
  | .switch => 0
  | .pwm =>
    if 1000 ≤ v then 100
    else if d.tOn ≤ v then
      min 100 (d.lmin + ((v - d.tOn) * (100 - d.lmin) + (1000 - d.tOn - 1)) / (1000 - d.tOn))
    else d.lmin

/-- The level a channel starts and rests at: Lmin, or 0 for a SWITCH channel (R33, R34). -/
def ChannelDef.least (d : ChannelDef) : Nat := match d.kind with | .switch => 0 | .pwm => d.lmin

/-- What a STARTING, RUNNING or STOPPING channel counts (R35); 0 in any other state. -/
def Channel.draws (x : Channel) : Nat :=
  match x.defined, x.state, x.defn.kind with
  | true, .starting, _ => x.defn.surge
  | true, .running, .switch => x.defn.rated
  | true, .running, .pwm => (x.defn.rated * x.applied + 99) / 100
  | true, .stopping, _ => x.defn.afterRunCurrent
  | _, _, _ => 0

/-- The sum of a figure over the 32 channels. -/
def State.over (s : State) (f : Channel → Nat) : Nat := ((List.range 32).map (fun c => f (s.channel c))).sum

/-- WAITING or IDLE by the combined request. -/
def Channel.asRequested (x : Channel) : ChannelState := if x.combined then .waiting else .idle

/-- A channel that goes out of service with its drive line off: LOCKOUT for its minimum off, or WAITING or IDLE (R44 step 5,
R45). -/
def Channel.resting (x : Channel) : Channel :=
  { x with applied := 0, timer := startedAt x.defn.minOff,
           state := if 0 < x.defn.minOff then .lockout else x.asRequested }

/-- A STARTING or RUNNING channel after a release (R44). -/
def Channel.afterRelease (x : Channel) : Channel :=
  let y := { x with minOnExpired := false, cleanRun := none }
  if 0 < x.defn.afterRun then
    { y with state := .stopping, timer := some (x.defn.afterRun * 1000), applied := x.defn.least }
  else y.resting

/-- No STARTING or RUNNING channel names `c` as prerequisite and no exercise is asked of `c`: what leaves RUNNING or STARTING
there reaches no other channel and no exercise record's retry timer (R51, R162). -/
def State.Alone (s : State) (c : Nat) : Prop :=
  (s.channel c).exercise = false ∧ ∀ d, (s.channel d).active = true → (s.channel d).defn.prerequisite ≠ some c

/-- Entry of channel `c` to RUNNING, `x` its record before the entry (R43, R160). -/
def State.intoRunning (s : State) (c : Nat) (x : Channel) : State :=
  { s with chan := { s.chan with
      channels := s.chan.channels.set c
        { x with state := .running, timer := startedAt x.defn.minOn, minOnExpired := decide (x.defn.minOn = 0),
                 cleanRun := some 60000 }
      exercise := s.chan.exercise.map (fun e => if e.bound = some c then { e with runTime := 0, running := true } else e) } }

/-- A grant of the WAITING channel `c`, its fault-sense input CLEAR (R41). -/
def State.startedUp (s : State) (c : Nat) : State :=
  let x := { s.channel c with applied := (s.channel c).defn.least, minOnExpired := false }
  let t := { s with chan := { s.chan with grantOrder := s.chan.grantOrder ++ [c] } }
  if 0 < x.defn.startTime then t.withChannel c { x with state := .starting, timer := some (x.defn.startTime * 1000) }
  else t.intoRunning c x

/-- `c` heads the shedding order (R64): no STARTING or RUNNING channel has a lower priority, nor the same priority and a place
nearer the end of the grant order list. -/
def State.ShedFirst (s : State) (c : Nat) : Prop :=
  (s.channel c).active = true ∧ ∀ d, d ≠ c → (s.channel d).active = true →
    (s.channel d).defn.priority < (s.channel c).defn.priority ∨
    ((s.channel d).defn.priority = (s.channel c).defn.priority ∧
      ∃ before after, s.chan.grantOrder = before ++ c :: after ∧ d ∈ before)

/-- Channel `c`'s record replaced as it leaves STARTING or RUNNING: off the grant order list, and the run timer of its exercise
record stopped if it was RUNNING (R44 step 1, R160). -/
def State.outOfService (s : State) (c : Nat) (x : Channel) : State :=
  { s with chan := { s.chan with
      channels := s.chan.channels.set c x
      grantOrder := s.chan.grantOrder.filter (fun d => decide (d ≠ c))
      exercise :=
        if (s.channel c).state = .running then
          s.chan.exercise.map (fun e => if e.bound = some c then { e with running := false } else e)
        else s.chan.exercise } }

/-- The ambient inhibit of a channel with definition `d` (R38): `first` says that the evaluation is a first one. -/
def ChannelDef.inhibited (d : ChannelDef) (status : AmbientStatus) (v : Int) (first before : Bool) : Bool :=
  let below := fun (margin : Int) => match d.ambientLow with | some lo => decide (v < lo + margin) | none => false
  let above := fun (margin : Int) => match d.ambientHigh with | some hi => decide (hi - margin < v) | none => false
  if d.ambientLow = none ∧ d.ambientHigh = none then false
  else if status = .expired then decide (d.failAction = .block)
  else if below 0 || above 0 then true
  else if first then false
  else if below 10 || above 10 then before
  else false

/-- No defined channel but `c` is STARTING, RUNNING or STOPPING (R55). -/
def State.NoneDrawsBut (s : State) (c : Nat) : Prop :=
  ∀ d, d ≠ c → (s.channel d).defined = true → (s.channel d).state.drawing = false

/-- The number of defined channels in a state. -/
def State.number (s : State) (st : ChannelState) : Nat := s.over (fun x => if x.defined = true ∧ x.state = st then 1 else 0)

/-- The end of a wind-down (R174): STANDBY, the effective values formed from the commanded ones, and WIND-DOWN-DONE. -/
def State.woundDown (s : State) : State :=
  let t := s.zonesReplaced (s.zones.map (fun z =>
    if z.defined then { z with effectiveSetpoint := z.commandedSetpoint, effectiveMode := z.commandedMode } else z))
  { t with ctl := { t.ctl with mode := .standby } }.withNotice
    (.windDownDone (s.number .lockout) (s.number .faulted) (s.number .latched))

/-! ## The logical inputs -/

/-- The thirteen inputs in input-number order, Z1 to Z12 and then OUT. -/
def theInputs : List Nat := (List.range 13).map (fun k => k + 1)

/-- The point exists, is of kind TEMP and has quality GOOD (R143). -/
def State.good (s : State) (p : Option PointRef) : Bool :=
  match p with
  | none => false
  | some q =>
    match s.point q with
    | none => false
    | some x => decide (x.kind = .temp ∧ x.quality = .good)

/-- The value at a point, or `old` where the sample table holds none. -/
def State.reading (s : State) (p : Option PointRef) (old : Int) : Int :=
  match p with
  | none => old
  | some q => match s.point q with
    | none => old
    | some x => x.value

/-- The point a source names for input `i` (section 7.1). -/
def State.pointOf (s : State) (i : Nat) (src : InputSource) : Option PointRef :=
  match src with
  | .primary => (s.input i).defn.primary
  | .alternate1 => (s.input i).defn.alternates[0]?
  | .alternate2 => (s.input i).defn.alternates[1]?
  | .pool k => s.sel.pool[k]?
  | .none => none

/-- The point input `i`'s source names. -/
def State.sourceOf (s : State) (i : Nat) : Option PointRef := s.pointOf i (s.input i).source

/-- Input `i` is evaluated at a sweep (R143). -/
def State.evaluates (s : State) (i : Nat) : Bool :=
  (s.input i).defn.primary.isSome && (decide (i = 13) || (s.zone i).defined)

/-- The primary of a candidate counts good (R144). -/
def State.countsGood (s : State) (i : Nat) : Bool :=
  s.good (s.input i).defn.primary &&
  (decide ((s.input i).state ≠ .substituted) ||
    match (s.sourceOf i).bind s.point with
    | none => false
    | some x => decide ((s.reading (s.input i).defn.primary 0 - x.value).natAbs ≤ s.settings.agreementTolerance))

/-- Input `i` is reinstated at this sweep, its verify count reaching 30 (R145). -/
def State.reinstates (s : State) (i : Nat) : Bool :=
  s.evaluates i && decide ((s.input i).state ≠ .onPrimary) && s.countsGood i && decide (29 ≤ (s.input i).verifyCount)

/-- A selection is made for input `i` at this sweep (R146, R148, R149). -/
def State.reselects (s : State) (i : Nat) : Bool :=
  s.evaluates i && !s.reinstates i &&
  match (s.input i).state with
  | .onPrimary => !s.good (s.input i).defn.primary && decide (4 ≤ (s.input i).badCount)
  | .substituted => !s.good (s.sourceOf i)
  | .invalid => true

/-- Input `i`'s selection finds no good alternate and turns to the pool (R147). -/
def State.turnsToPool (s : State) (i : Nat) : Bool :=
  s.reselects i && !s.good (s.input i).defn.alternates[0]? && !s.good (s.input i).defn.alternates[1]?

/-- The good pool points the second pass finds free, ascending: those of the free list and those a reinstatement returns (R139,
R145). A point returned by a failed substitute is not good (R148). -/
def State.lendable (s : State) : List Nat :=
  (List.range s.sel.pool.length).filter (fun k =>
    s.good s.sel.pool[k]? &&
    (s.sel.freeList.contains k || theInputs.any (fun i => s.reinstates i && decide ((s.input i).source = .pool k))))

/-- The source a selection gives input `i` (R147): its first good alternate, or else the lowest good pool point that the inputs
before it have left free, or none. -/
def State.sourceFor (s : State) (i : Nat) : InputSource :=
  if s.good (s.input i).defn.alternates[0]? then .alternate1
  else if s.good (s.input i).defn.alternates[1]? then .alternate2
  else
    match s.lendable[(theInputs.filter (fun j => decide (j < i) && s.turnsToPool j)).length]? with
    | some k => .pool k
    | none => .none

/-- Input `i` after the selector's three passes (R143 to R150). -/
def State.inputSwept (s : State) (i : Nat) : LogicalInput :=
  let x : LogicalInput := s.input i
  let counted := if s.countsGood i then x.verifyCount + 1 else 0
  let src := s.sourceFor i
  if s.evaluates i = false then x
  else if s.reinstates i then
    { x with state := .onPrimary, source := .primary, holding := false, badCount := 0, verifyCount := 0
             value := s.reading x.defn.primary x.value, seenGood := true }
  else if s.reselects i then
    let y : LogicalInput := { x with source := src, holding := false, badCount := if x.state = .onPrimary then 0 else x.badCount }
    if src = .none then { y with state := .invalid, verifyCount := if x.state = .invalid then counted else 0 }
    else { y with state := .substituted, verifyCount := 0, value := s.reading (s.pointOf i src) x.value, seenGood := true }
  else if x.state = .onPrimary then
    if s.good x.defn.primary then
      { x with holding := false, badCount := 0, value := s.reading x.defn.primary x.value, seenGood := true }
    else { x with holding := true, badCount := x.badCount + 1, value := s.reading x.defn.primary x.value }
  else { x with verifyCount := counted, value := s.reading (s.sourceOf i) x.value, seenGood := true }

/-- The notices of a sweep (R151): the reinstatements in candidate-list order, then the substitutions and the inputs newly INVALID in
input-number order. -/
def State.sweepNotices (s : State) : List Notice :=
  (s.sel.candidates.filter s.reinstates).map (fun i => .inputReinstated i (s.reading (s.input i).defn.primary 0)) ++
  (theInputs.filter s.reselects).filterMap (fun i =>
    match s.pointOf i (s.sourceFor i) with
    | some q => some (.inputSubstituted i (s.sourceFor i) q (s.reading (some q) 0))
    | none => if (s.input i).state = .invalid then none else some (.inputInvalid i (s.input i).value))

/-! ## The station line -/

/-- The defined and enabled station of lowest index above the last one handled (R122). -/
def State.nextPolled (s : State) (last : Option Nat) : Option Nat :=
  (List.range 16).find? (fun k =>
    (s.station k).defined && (s.station k).defn.enabled &&
    (match last with
     | none => true
     | some l => decide (l < k)))

/-- The next step of a sweep (R122, R129): a read poll to the next station, or the sweep complete with its figures recorded and
its completion with the input selector. -/
def State.sweepOn (s : State) (w : Sweep) : State :=
  match s.nextPolled w.last with
  | none =>
    { s with line := { s.line with
        inFlight := some { w with poll := none, stage := .selector }
        lastSweep := { w.figures with kind := some w.kind } } }
  | some k =>
    s.withSweep (some
      { w with
        last := some k
        poll := some { station := k, kind := .read, address := (s.station k).defn.address,
                       points := (s.station k).defn.kinds.length, second := false, window := 20, disowned := false }
        figures := { w.figures with readPolled := w.figures.readPolled + 1 } })

/-- The first step of a sweep that starts (R121, R130). -/
def State.sweepBegun (s : State) (kind : SweepKind) (tag : Option Nat) : State :=
  s.sweepOn
    { kind := kind, tag := tag, stage := .polling, last := none, poll := none,
      figures := { kind := none, readPolled := 0, replied := 0, writes := 0, writesReplied := 0 } }

/-- Whatever poll is outstanding to station `i` is no longer acted on (R131). -/
def State.disowned (s : State) (i : Nat) : State :=
  s.withSweep (s.line.inFlight.map (fun w =>
    { w with poll := w.poll.map (fun p => if p.station = i then { p with disowned := true } else p) }))

/-- The characters of a READ-REPLY (section 6.1, R197). -/
def readReply (address : Nat) (values : List Int) : List Byte :=
  let fields := u8 address ++ u8 2 ++ u8 values.length ++ values.flatMap i16
  fields ++ u16 (crc fields).toNat

/-- The characters of a WRITE-ACK (section 6.1, R197). -/
def writeAck (address : Nat) : List Byte :=
  let fields := u8 address ++ u8 4
  fields ++ u16 (crc fields).toNat

/-- The reply is good for the poll (R116). -/
def Poll.Answered (p : Poll) (reply : List Byte) : Prop :=
  match p.kind with
  | .read => ∃ values : List Int,
      reply = readReply p.address values ∧ p.points ≤ values.length ∧ values.length < 256 ∧
      ∀ v ∈ values, -32768 ≤ v ∧ v ≤ 32767
  | .write _ _ => reply = writeAck p.address

/-- A completion taken by the zone controller, by the channel controller, or by both (R129): with both, the sweep-in-flight flag
clears, and a SWEEP-NOW that waited is answered with the figures (R130). -/
def State.sweepTaken (s : State) (w : Sweep) (byZones byChannels : Bool) : State :=
  if byZones ∧ byChannels then
    let t := s.withSweep none
    match w.tag with
    | none => t
    | some tag =>
      { t with link := { t.link with
          ready := some
            { kind := 0x14, tag := tag, code := .done, content := .sweep { w.figures with kind := some w.kind } } } }
  else s.withSweep (some { w with stage := .handedOn byZones byChannels })

/-- A point judged against its kind (R123). -/
def Point.judged (v : Int) (x : Point) : Point :=
  let valid := match x.kind with
    | .temp => decide (-400 ≤ v ∧ v ≤ 850)
    | .nudge => decide (-4 ≤ v ∧ v ≤ 4)
  if valid then { x with value := v, quality := .good, goodCount := min 255 (x.goodCount + 1), badCount := 0 }
  else { x with quality := .outOfRange, badCount := min 255 (x.badCount + 1), goodCount := 0 }

/-- A channel's figure as a STARTING channel: the greater of its surge current and its running current at Lmin (R68). -/
def ChannelDef.startingFigure (d : ChannelDef) : Nat :=
  max d.surge (match d.kind with | .switch => d.rated | .pwm => (d.rated * d.lmin + 99) / 100)

/-! ## The validation -/

/-- A point is a TEMP point of a defined station (R141). -/
def State.IsTemp (s : State) (p : PointRef) : Prop := s.listedKind p = some .temp

/-- The tests of one record, in its rule's order, each with the reason of its failure. All hold. -/
def AllHold : List (Prop × Reason) → Prop
  | [] => True
  | (test, _) :: rest => test ∧ AllHold rest

/-- `r` is the reason of the first test that fails. -/
def FirstFails : List (Prop × Reason) → Reason → Prop
  | [], _ => False
  | (test, x) :: rest, r => (¬ test ∧ r = x) ∨ (test ∧ FirstFails rest r)

/-- A zone passes (R3). -/
def State.ZoneOk (s : State) (n : Nat) : Prop :=
  (s.zone n).defined = true → ∀ p, (s.zone n).defn.panel = some p → s.listedKind p = some .nudge

/-- The tests of a channel (R28). -/
def State.channelTests (s : State) (c : Nat) : List (Prop × Reason) :=
  [(∀ z ∈ (s.channel c).defn.served, (s.zone z).defined = true, .servedZone),
   ((s.channel c).defn.tOff < (s.channel c).defn.tOn, .thresholds),
   (∀ lo hi, (s.channel c).defn.ambientLow = some lo → (s.channel c).defn.ambientHigh = some hi → lo + 20 ≤ hi,
    .ambientWindow),
   (∀ q, (s.channel c).defn.prerequisite = some q → (s.channel q).defined = true, .prerequisite),
   (∀ q r t, (s.channel c).defn.prerequisite = some q → (s.channel q).defn.prerequisite = some r →
      (s.channel r).defn.prerequisite = some t → (s.channel t).defn.prerequisite = none, .prerequisiteChain),
   ((s.channel c).defn.exercise = true →
      ((List.range c).filter (fun d => (s.channel d).defined && (s.channel d).defn.exercise)).length < 2, .exerciseCount)]

/-- A channel passes (R28). -/
def State.ChannelOk (s : State) (c : Nat) : Prop := (s.channel c).defined = true → AllHold (s.channelTests c)

/-- The tests of a share group (R89). -/
def State.groupTests (s : State) (g : Nat) : List (Prop × Reason) :=
  [(∀ c, (s.channel c).defined = true → (s.channel c).defn.group = g →
      (s.channel c).defn.startingFigure ≤ (s.group g).defn.peak, .peakBelowStart),
   (0 < (s.group g).defn.peak → 0 < (s.group g).defn.peak / (s.group g).defn.divisor, .noRefill)]

/-- A share group passes (R89). -/
def State.GroupOk (s : State) (g : Nat) : Prop :=
  (∃ c, (s.channel c).defined = true ∧ (s.channel c).defn.group = g) → AllHold (s.groupTests g)

/-- The tests of a station (R120). -/
def State.stationTests (s : State) (i : Nat) : List (Prop × Reason) :=
  [(∀ j, j < i → (s.station j).defined = true → (s.station j).defn.address ≠ (s.station i).defn.address, .duplicateAddress),
   ((s.station i).defn.policy ≠ .none → ∃ z, (s.station i).defn.panelZone = some z ∧ (s.zone z).defined = true, .panelZone),
   (((List.range (i + 1)).map (fun j =>
      if (s.station j).defined then (s.station j).defn.kinds.length else 0)).sum ≤ 64, .pointTotal)]

/-- A station passes (R120). -/
def State.StationOk (s : State) (i : Nat) : Prop := (s.station i).defined = true → AllHold (s.stationTests i)

/-- The tests of a logical input (R141). -/
def State.inputTests (s : State) (i : Nat) : List (Prop × Reason) :=
  [(i ≤ 12 → (s.zone i).defined = true → (s.input i).defn.primary ≠ none, .noInput),
   (∀ p, (s.input i).defn.primary = some p → s.IsTemp p, .primaryPoint),
   (∀ p ∈ (s.input i).defn.alternates, s.IsTemp p, .alternatePoint),
   ((∀ p ∈ (s.input i).defn.alternates, (s.input i).defn.primary ≠ some p) ∧
      ∀ a b, (s.input i).defn.alternates[0]? = some a → (s.input i).defn.alternates[1]? = some b → a ≠ b,
    .alternateRepeat)]

/-- A logical input passes (R141). -/
def State.InputOk (s : State) (i : Nat) : Prop := AllHold (s.inputTests i)

/-- The tests of a pool entry (R142). -/
def State.poolTests (s : State) (k : Nat) (p : PointRef) : List (Prop × Reason) :=
  [(s.IsTemp p, .poolPoint), (∀ j, j < k → s.sel.pool[j]? ≠ some p, .poolRepeat),
   (∀ i, 1 ≤ i → i ≤ 13 → (s.input i).defn.primary ≠ none →
      (s.input i).defn.primary ≠ some p ∧ p ∉ (s.input i).defn.alternates, .poolOverlap)]

/-- A pool entry passes (R142). -/
def State.PoolOk (s : State) (k : Nat) (p : PointRef) : Prop := AllHold (s.poolTests k p)

/-- The working configuration passes the validation (R168; R3, R28, R85, R89, R110, R120, R141, R142). -/
def State.Valid (s : State) : Prop :=
  (∃ n, (s.zone n).defined = true) ∧ (∃ c, (s.channel c).defined = true) ∧
  (∀ n, s.ZoneOk n) ∧ (∀ c, s.ChannelOk c) ∧ (∀ g, g < 8 → s.GroupOk g) ∧
  (∀ k c, k < s.alloc.rotaLength → s.alloc.rota.get none k = some c → (s.channel c).defined = true) ∧
  (∀ e d, (s.promptEntry e).defn = some d → (s.channel d.channel).defined = true) ∧
  (∀ i, s.StationOk i) ∧ (∀ i, 1 ≤ i → i ≤ 13 → s.InputOk i) ∧
  (∀ k p, s.sel.pool[k]? = some p → s.PoolOk k p)

/-- Record `index` of a record kind passes its step of the validation (R168). -/
def State.Passes (s : State) (kind index : Nat) : Prop :=
  match kind with
  | 2 => s.ZoneOk index
  | 3 => s.ChannelOk index
  | 4 => index < 8 → s.GroupOk index
  | 5 => ∀ c, index < s.alloc.rotaLength → s.alloc.rota.get none index = some c → (s.channel c).defined = true
  | 6 => ∀ d, (s.promptEntry index).defn = some d → (s.channel d.channel).defined = true
  | 7 => s.StationOk index
  | 8 => s.InputOk index
  | 9 => ∀ p, s.sel.pool[index]? = some p → s.PoolOk index p
  | _ => True

/-- The reason of a record that does not pass: that of the first of its tests that fails (R168). -/
def State.Names (s : State) (kind index : Nat) (r : Reason) : Prop :=
  match kind with
  | 2 => r = .panelPoint
  | 3 => FirstFails (s.channelTests index) r
  | 4 => FirstFails (s.groupTests index) r
  | 5 => r = .rotaEntry
  | 6 => r = .promptChannel
  | 7 => FirstFails (s.stationTests index) r
  | 8 => FirstFails (s.inputTests index) r
  | 9 => ∃ p, s.sel.pool[index]? = some p ∧ FirstFails (s.poolTests index p) r
  | _ => False

/-- `f` is the first failure of the validation, in the order of its steps (R168): presence, and then the first record that does not
pass, with its reason. -/
def State.FirstFailure (s : State) (f : ConfigFault) : Prop :=
  ((∀ n, (s.zone n).defined = false) → f = ⟨0x02, 0, .noZone⟩) ∧
  ((∃ n, (s.zone n).defined = true) → (∀ c, (s.channel c).defined = false) → f = ⟨0x03, 0, .noChannel⟩) ∧
  ((∃ n, (s.zone n).defined = true) → (∃ c, (s.channel c).defined = true) →
    ¬ s.Passes f.kind f.index ∧ s.Names f.kind f.index f.reason ∧
    ∀ k n, (k < f.kind ∨ (k = f.kind ∧ n < f.index)) → s.Passes k n)

/-! ## The requests -/

/-- The combined and drawn requests stand as R31 and R32 form them. -/
def State.RequestsFormed (s : State) : Prop :=
  s.phase = .operating → ∀ c,
    ((s.channel c).drawn = true ↔
      (s.channel c).defined = true ∧
      ∃ d, (s.channel d).defined = true ∧ (s.channel d).defn.prerequisite = some c ∧ (s.channel d).combined = true) ∧
    ((s.channel c).combined = true ↔
      (s.channel c).defined = true ∧ (s.channel c).inhibit = false ∧ (s.ctl.mode = .run ∨ s.ctl.mode = .fallback) ∧
      ((s.channel c).own = true ∨ (s.channel c).drawn = true ∨ (s.channel c).prompt = true ∨
       (s.channel c).exercise = true))

/-- Every channel has answered its combined request (R40, R43). -/
def State.RequestsAnswered (s : State) : Prop :=
  ∀ c, ((s.channel c).state = .idle → (s.channel c).combined = false) ∧
    ((s.channel c).state = .waiting → (s.channel c).combined = true) ∧
    ((s.channel c).defined = true → (s.channel c).state = .running → (s.channel c).minOnExpired = true →
      (s.channel c).combined = true)

/-- The requests stand formed, no chain of prerequisites is longer than three links, and every channel has answered its combined
request (R28, R40, R43). -/
def State.Settled (s : State) : Prop :=
  s.RequestsFormed ∧ (∀ c, s.ChannelOk c) ∧ s.RequestsAnswered

/-! ## The allocator -/

/-- A channel's figure in its share group's load: its figure as a STARTING channel, or the counted current while RUNNING (R68). -/
def Channel.figure (x : Channel) : Nat :=
  match x.defined, x.state with
  | true, .starting => x.defn.startingFigure
  | true, .running => x.draws
  | _, _ => 0

/-- The group load of share group `g` (R68), where no renewal waits for its grant. -/
def State.load (s : State) (g : Nat) : Nat := s.over (fun y => if y.defn.group = g then y.figure else 0)

/-- A credit refusal and a peak refusal counted for share group `g` (R99). -/
def State.creditRefused (s : State) (g : Nat) : State :=
  s.withGroup g { s.group g with creditRefusals := countUp 65535 (s.group g).creditRefusals }

def State.peakRefused (s : State) (g : Nat) : State :=
  s.withGroup g { s.group g with peakRefusals := countUp 65535 (s.group g).peakRefusals }

/-- The prerequisite of a channel allows its grant (R67). -/
def State.prerequisiteRuns (s : State) (x : Channel) : Bool :=
  match x.defn.prerequisite with
  | none => true
  | some q => (s.channel q).defined && decide ((s.channel q).state = .running)

/-- A grant of the WAITING channel `c` of whom no exercise is asked: as `startedUp`, but an ASSERTED fault-sense input faults it at
its entry to STARTING (R41, R47). -/
def State.startedSensing (s : State) (c : Nat) : State :=
  let x := s.channel c
  if x.sense then
    (({ s with chan := { s.chan with
        grantOrder := (s.chan.grantOrder ++ [c]).filter (fun d => decide (d ≠ c)) } } : State).withChannel c
      { x with state := .faulted, applied := 0, minOnExpired := false, cleanRun := none, timer := some 30000
               faults := min 3 (x.faults + 1) }).withNotice (.channelFaulted c .starting (min 3 (x.faults + 1)))
  else s.startedUp c

/-- The prompt grant offered to channel `c` at an opening, with the numbers granted and not granted so far (R112, R113; the ceiling
test, log 47). -/
def State.promptOffered (r : State × Nat × Nat) (c : Nat) : State × Nat × Nat :=
  let s := r.1
  let x := s.channel c
  let g := x.defn.group
  let y := s.group g
  let refused := fun (t : State) => (t, r.2.1, r.2.2 + 1)
  if x.active then r
  else if x.defined && decide (x.state = .waiting) && decide (x.defn.priority < s.alloc.threshold) && !x.inhibit &&
      x.combined && s.prerequisiteRuns x then
    if y.credit - x.defn.surge < -((y.defn.peak * y.defn.burst : Nat) : Int) then
      refused (s.creditRefused g)
    else if y.defn.peak < s.load g + x.defn.startingFigure then
      refused (s.peakRefused g)
    else if s.alloc.ceiling < s.over Channel.draws + x.defn.surge then refused s
    else ((s.withGroup g { y with credit := y.credit - x.defn.surge }).startedSensing c, r.2.1 + 1, r.2.2)
  else refused s

/-- Stages 1 and 2 of a slot decision (R66, R69, R92): the timer started again, the displacements and the decision's figures set, every
group's credit refilled up to its capacity, and the rota advanced. -/
def State.slotOpened (s : State) : State :=
  { s with alloc := { s.alloc with
      slotTimer := some 250, displacementsLeft := 2, lastGrants := 0, lastReleases := 0, lastDisplacements := 0
      firstSlot := decide (s.alloc.rotaLength = 0) && s.alloc.firstSlot
      rotaPosition :=
        if s.alloc.rotaLength = 0 ∨ s.alloc.firstSlot = true then s.alloc.rotaPosition
        else (s.alloc.rotaPosition + 1) % s.alloc.rotaLength
      groups := s.alloc.groups.map (fun y =>
        { y with
          credit := min ((y.defn.peak * y.defn.burst : Nat) : Int)
            (y.credit + ((y.defn.peak / y.defn.divisor : Nat) : Int)) }) } }

/-- The channel that the slot's rota entry names, if any (R69). -/
def State.slotEntry (s : State) : Option Nat :=
  if s.alloc.rotaLength = 0 then none else s.alloc.rota.get none s.slotOpened.alloc.rotaPosition

/-- A slot decision is made: in RUN and FALLBACK, while the slot timer runs (R66). -/
def State.Decides (s : State) : Prop :=
  s.phase = .operating ∧ (s.ctl.mode = .run ∨ s.ctl.mode = .fallback) ∧ s.alloc.slotTimer ≠ none

/-- A grant charged to the credit of `c`'s group at `amount`, counted, and the level's cursor moved past the channel (R72, R75). -/
def State.levelGrant (s : State) (c amount : Nat) : State :=
  let x := s.channel c
  let y := s.group x.defn.group
  let t := s.withGroup x.defn.group { y with credit := y.credit - amount }
  { t with alloc := { t.alloc with
      lastGrants := t.alloc.lastGrants + 1, cursors := t.alloc.cursors.set x.defn.priority ((c + 1) % 32) } }

/-- The held charge of share group `g`: the counted current of its STARTING and RUNNING channels, down to minus the capacity (R70,
R93). -/
def ShareGroup.heldCharge (held : Nat) (y : ShareGroup) : ShareGroup :=
  { y with credit := max (-((y.defn.peak * y.defn.burst : Nat) : Int)) (y.credit - held) }

/-! ## The working configuration -/

/-- The working configuration: the part settings and the definition part of every defined record (chapter 11). -/
def State.asStored (s : State) : StoredConfig :=
  { settings := s.settings
    zones := s.zones.map (fun z => if z.defined then some z.defn else none)
    channels := s.chan.channels.map (fun c => if c.defined then some c.defn else none)
    groups := s.alloc.groups.map ShareGroup.defn
    prompts := s.alloc.prompts.map PromptEntry.defn
    stations := s.line.stations.map (fun i => if i.defined then some i.defn else none)
    inputs := s.sel.inputs.map LogicalInput.defn
    pool := s.sel.pool, rotaLength := s.alloc.rotaLength, rota := s.alloc.rota }

/-- The bound channels and idle hours of the exercise records (R163, R194). -/
def State.hours (s : State) : StoredCounters :=
  { first := ⟨(s.exerciseRecord 0).bound, (s.exerciseRecord 0).idleHours⟩
    second := ⟨(s.exerciseRecord 1).bound, (s.exerciseRecord 1).idleHours⟩ }

/-- What follows the end of a write (R194, R195): a SAVE that waits begins its own, or else a kept checkpoint is written. -/
def Store.onward (x : Store) : Store :=
  match x.save, x.keptCheckpoint with
  | some _, _ => { x with write := .configuration, configArea := none }
  | none, some c => { x with write := .checkpoint c, counterArea := none, keptCheckpoint := none }
  | none, none => { x with write := .idle }

/-! ## Start-up and the entry to RUN -/

/-- The channels of a configuration that carry the exercise flag, in channel-number order (R157). -/
def StoredConfig.exercised (x : StoredConfig) : List Nat :=
  (List.range 32).filter (fun c =>
    match x.channels.get none c with
    | some d => d.exercise
    | none => false)

/-- A channel at the end of start-up (R53): `latched` says that it was LATCHED and stays so. -/
def channelStarted (d : ChannelDef) (latched sense : Bool) : Channel :=
  { factoryChannel sense with
    defined := true, defn := d, target := d.least
    state := if latched then .latched else if 0 < d.minOff then .lockout else .idle
    timer := if latched then none else startedAt d.minOff
    inhibit := (d.ambientLow.isSome || d.ambientHigh.isSome) && decide (d.failAction = .block) }

/-- An exercise record loaded at power-on for the bound channel `b` (R164). -/
def recordStarted (interval : Nat) (b : Option Nat) (stored : Option StoredCounter) : ExerciseRecord :=
  let hours := match stored with
    | some c => if c.bound = b then c.idleHours else 0
    | none => 0
  { bound := b, idleHours := hours, hourTime := 0, due := decide (interval ≤ hours), retry := none, runTime := 0,
    running := false }

/-- An exercise record kept at RESTART for the bound channel `b`, its retry timer with it (R157, R164). -/
def recordCarried (interval : Nat) (b : Option Nat) (x : ExerciseRecord) : ExerciseRecord :=
  if x.bound = b then { x with running := false, due := decide (interval ≤ x.idleHours) }
  else
    { bound := b, idleHours := 0, hourTime := 0, due := decide (interval ≤ 0), retry := none, runTime := 0, running := false }

/-- Two exercise records as a table. -/
def recordPair (a b : ExerciseRecord) : Table ExerciseRecord 2 := ⟨[a, b], rfl⟩

/-- The part on reaching STANDBY with configuration `x` (R22, R53, R57, R90, R103, R110, R121, R133, R153, R155, R166, R181, R190,
R192). Of the state before only the store's areas, the fault-sense inputs and the model's own fields remain. -/
def State.standbyWith (s : State) (kind : StartKind) (x : StoredConfig) (configLoad counterLoad : LoadStatus)
    (latched : Nat → Bool) (records : Table ExerciseRecord 2) (checkpointTime : Nat) : State :=
  { phase := .operating
    ctl := { mode := .standby, startKind := kind, lastValidation := .none, fallbackFlag := false, fallbackTime := 0,
             supplyStale := false }
    settings := x.settings
    zones := x.zones.map (fun o => match o with | some d => freshZone d | none => factoryZone)
    doors := Table.fill 4 { isOpen := false, limitTimer := none, limitExpired := false }
    chan :=
      { channels := x.channels.mapIdx (fun c o =>
          match o with
          | some d => channelStarted d (latched c) (s.sensePins.get false c)
          | none => factoryChannel (s.sensePins.get false c))
        grantOrder := [], ambientValue := 0, ambientStatus := .expired, ambientTimer := none, exercise := records
        checkpointTime := checkpointTime, updates := [] }
    alloc :=
      { ceiling := x.settings.safeCeiling, threshold := x.settings.safeThreshold, source := .safe, stalenessTimer := none
        slotTimer := none, rotaLength := x.rotaLength, rota := x.rota, rotaPosition := 0, firstSlot := true
        cursors := Table.fill 8 0, displacementsLeft := 0, displacementRefused := 0, lastGrants := 0, lastReleases := 0
        lastDisplacements := 0
        groups := x.groups.map (fun d =>
          { defn := d, credit := (d.peak * d.burst : Nat), creditRefusals := 0, peakRefusals := 0 })
        prompts := x.prompts.map (fun o => { defn := o, runOnTimer := none }) }
    line :=
      { stations := x.stations.map (fun o => match o with | some d => freshStation d | none => factoryStation)
        sweepTimer := some 1000, inFlight := none, overruns := 0
        lastSweep := { kind := none, readPolled := 0, replied := 0, writes := 0, writesReplied := 0 } }
    sel :=
      { inputs := x.inputs.map freshInput, handed := x.inputs.map freshInput, pool := x.pool
        freeList := List.range x.pool.length, candidates := [] }
    link :=
      { rxBuffer := [], requests := [], noticesLost := false
        notices :=
          (if configLoad = .defaulted then [.storeFault .configuration .badChecksum] else []) ++
          (if counterLoad = .defaulted then [.storeFault .counter .badChecksum] else [])
        counts := { framesReceived := 0, length := 0, abandoned := 0, check := 0, queueFull := 0 }
        silenceTimer := none, lineRate := x.settings.lineRate, ready := none, tx := .idle }
    store :=
      { configArea := s.store.configArea, counterArea := s.store.counterArea, configLoad := configLoad
        counterLoad := counterLoad, configWrite := .none, counterWrite := .none, write := .idle, save := none
        keptCheckpoint := none }
    sensePins := s.sensePins
    freeCount := s.freeCount
    pending := s.pending }

/-- `u` is `b` after an entry to RUN (R169), but for what the link port's queues and transmitter do meanwhile. A demand update that
still waits is kept (log 24), and a completion handed on is taken with the restarted inputs (log 50). -/
def EntersRun (b u : State) : Prop :=
  u.phase = .operating ∧
  u.ctl = { b.ctl with mode := .run, supplyStale := false, lastValidation := .passed } ∧
  u.settings = b.settings ∧ u.doors = b.doors ∧ u.store = b.store ∧ u.sensePins = b.sensePins ∧
  (∀ n, u.zone n =
    if (b.zone n).defined then
      { b.zone n with
        integral := 0, demand := 0, nudge := 0, inputValue := 0, hold := .normal, holdTimer := none,
        effectiveSetpoint := (b.zone n).commandedSetpoint, effectiveMode := (b.zone n).commandedMode }
    else b.zone n) ∧
  u.sel = { b.sel with
    inputs := b.sel.inputs.map (fun x => freshInput x.defn), handed := b.sel.inputs.map (fun x => freshInput x.defn)
    candidates := [], freeList := List.range b.sel.pool.length } ∧
  u.alloc = { b.alloc with
    cursors := Table.fill 8 0, rotaPosition := 0, firstSlot := true, stalenessTimer := some 5000, slotTimer := some 250,
    lastGrants := 0, lastReleases := 0, lastDisplacements := 0,
    groups := b.alloc.groups.map (fun g => { g with credit := (g.defn.peak * g.defn.burst : Nat) }) } ∧
  u.link.silenceTimer = some (b.settings.linkSilence * 1000) ∧ u.link.notices.length ≤ b.link.notices.length ∧
  ((∀ n, (b.zone n).defined = true →
      (b.zone n).effectiveSetpoint = (b.zone n).commandedSetpoint ∧ (b.zone n).effectiveMode = (b.zone n).commandedMode) →
    u.line = b.line) ∧
  u.chan = { b.chan with channels := u.chan.channels } ∧ u.RequestsFormed ∧
  (∀ c, (b.channel c).defined = true →
    u.channel c =
      { b.channel c with
        driving := 0, own := false, target := (b.channel c).defn.least
        exercise := (u.channel c).exercise, drawn := (u.channel c).drawn, combined := (u.channel c).combined
        state := match (b.channel c).state with
          | .idle => (u.channel c).asRequested
          | .waiting => (u.channel c).asRequested
          | other => other }) ∧
  (∀ r c, r < 2 → (b.exerciseRecord r).bound = some c → (b.exerciseRecord (1 - r)).bound ≠ some c →
    (b.channel c).defined = true →
    (u.channel c).exercise = ((b.exerciseRecord r).due && (b.exerciseRecord r).retry.isNone))

/-! ## Invariants' terms -/

/-- No defined channel is STARTING or RUNNING. -/
def State.NoneActive (s : State) : Prop := ∀ c, (s.channel c).active = false

/-- The total counted current stands within the ceiling in force, unless no channel is STARTING or RUNNING (R64). -/
def State.CeilingBinds (s : State) : Prop := s.over Channel.draws ≤ s.alloc.ceiling ∨ s.NoneActive

/-! ## Invariants -/

/-- The request queue holds at most 4 frames and the notice queue at most 16 notices (R183, R187). -/
def State.QueueBounds (s : State) : Prop := s.link.requests.length ≤ 4 ∧ s.link.notices.length ≤ 16

/-- While the part operates and the transmitter is free, no reply is ready and no notice is queued (R186). -/
def State.NothingWaits (s : State) : Prop :=
  s.phase = .operating → s.link.tx = .idle → s.link.ready = none ∧ s.link.notices = []

/-- A zone's integral lies within -64000..64000, and its demand within -1000..1000 and the bounds of its effective mode (R11). -/
def Zone.InBounds (z : Zone) : Prop :=
  -64000 ≤ z.integral ∧ z.integral ≤ 64000 ∧ -1000 ≤ z.demand ∧ z.demand ≤ 1000 ∧
  z.effectiveMode.bounds.1 ≤ z.demand ∧ z.demand ≤ z.effectiveMode.bounds.2

/-- Every defined zone is within its bounds, and in STANDBY and WIND-DOWN its integral and demand are 0 (R11, R24). -/
def State.DemandBounds (s : State) : Prop :=
  ∀ z ∈ s.zones.rows, z.defined = true →
    z.InBounds ∧
    (s.phase = .operating → s.ctl.mode = .standby ∨ s.ctl.mode = .windDown → z.integral = 0 ∧ z.demand = 0)

/-- Every share group's credit lies within minus its capacity and plus its capacity, peak times burst slots (R87, R93). -/
def State.CreditBounds (s : State) : Prop :=
  ∀ g ∈ s.alloc.groups.rows,
    -((g.defn.peak * g.defn.burst : Nat) : Int) ≤ g.credit ∧ g.credit ≤ ((g.defn.peak * g.defn.burst : Nat) : Int)

/-- No defined channel draws current in STANDBY, and none is STARTING or RUNNING in WIND-DOWN (R55, R60). -/
def State.Quiet (s : State) : Prop :=
  s.phase = .operating → ∀ x ∈ s.chan.channels.rows, x.defined = true →
    (s.ctl.mode = .standby → x.state.drawing = false) ∧ (s.ctl.mode = .windDown → x.state.inService = false)

/-- The grant order list holds exactly the channels in STARTING or RUNNING, each once (section 2.1). -/
def State.GrantOrderExact (s : State) : Prop :=
  s.chan.grantOrder.Nodup ∧ ∀ c, c ∈ s.chan.grantOrder ↔ (s.channel c).active = true

/-- Every channel definition a configuration carries has a priority of the channel table (section 2.1). -/
def StoredConfig.PrioritiesInRange (x : StoredConfig) : Prop := ∀ d, some d ∈ x.channels.rows → d.priority ≤ 7

/-- The priorities of the channels, of the configuration area and of a SAVE's snapshot are those of the channel table. -/
def State.PrioritiesInRange (s : State) : Prop :=
  (∀ x ∈ s.chan.channels.rows, x.defined = true → x.defn.priority ≤ 7) ∧
  (∀ x, s.store.configArea = some x → x.PrioritiesInRange) ∧
  (∀ op, s.store.save = some op → op.config.PrioritiesInRange)

/-- The STARTING and RUNNING channels of every share group together stand within its peak, a STARTING channel at its figure, and
every STARTING channel at its least level (R34, R68, R98). -/
def State.WithinPeaks (s : State) : Prop :=
  (∀ g, s.over (fun x => if x.defn.group = g then x.figure else 0) ≤ (s.group g).defn.peak) ∧
  (∀ c, (s.channel c).defined = true → (s.channel c).state = .starting → (s.channel c).applied = (s.channel c).defn.least)

/-- Every pool index is either on the free list, which is ascending, or the source of exactly one logical input (R139); the
candidate list holds each input once, and exactly those that are not ON-PRIMARY (R140). -/
def State.PoolLent (s : State) : Prop :=
  s.sel.candidates.Nodup ∧ (∀ i ∈ s.sel.candidates, 1 ≤ i ∧ i ≤ 13) ∧
  (∀ i, 1 ≤ i → i ≤ 13 →
    (i ∈ s.sel.candidates ↔ (s.input i).state ≠ .onPrimary) ∧
    ((s.input i).state = .onPrimary ↔ (s.input i).source = .primary) ∧
    ((s.input i).state = .invalid ↔ (s.input i).source = .none) ∧
    (∀ k, (s.input i).source = .pool k →
      k < s.sel.pool.length ∧ ∀ j, 1 ≤ j → j ≤ 13 → (s.input j).source = .pool k → j = i)) ∧
  s.sel.freeList = (List.range s.sel.pool.length).filter (fun k =>
    (List.range 13).all (fun i => decide ((s.input (i + 1)).source ≠ .pool k)))

/-- A channel with a prerequisite is STARTING or RUNNING only while its prerequisite is RUNNING (R51). -/
def State.PrerequisitesRun (s : State) : Prop :=
  s.phase = .operating → ∀ c q, (s.channel c).active = true → (s.channel c).defn.prerequisite = some q →
    (s.channel q).defined = true ∧ (s.channel q).state = .running

end Sys2Proof.Machine
end

