-- ==== Sys2Proof/Certificates/Slice0/Obligations.lean ====
section
/-! DEFINITION. The statements for the provers. A request's row is its taking (log 1), and every command ends with the transmitter's
choice (log 7), `.pump`, which LinkSendsAndQueues states. `s.atTaking` is the part as the taking of a request finds it (out of
FALLBACK); `t.answered i code content` is `t` with request `i` at the head of the request queue and its reply formed. A next state
written as an update of the state before leaves every other field unchanged. -/

open Sys2Proof Sys2Proof.Machine

/-! ## The machine -/

/-- One step takes the command at the front of the queue and is exec of it on the state with the queue's rest. -/
def Obligations.StepRunsFrontCommand : Prop :=
  ∀ (c : Instr) (rest : List Instr) (s : State), s.pending = c :: rest → step s = exec c { s with pending := rest }

/-- The model's choice (log 3): with no command waiting a step passes one millisecond. The running timers count down and stop at
0; the hour and checkpoint timers count in RUN and FALLBACK (R158, R163), the run timer while it runs (R160), the fallback time in
FALLBACK (R166). In start-up the retry timers alone go on, and held in reset nothing does (R170, R175). -/
def Obligations.EmptyQueueStepPassesTime : Prop :=
  ∀ s : State, s.pending = [] →
    let less := fun (t : Option Nat) => t.map (fun n => n - 1)
    let counts := s.ctl.mode = .run ∨ s.ctl.mode = .fallback
    (s.phase = .held → step s = .next s) ∧
    (s.phase = .startUp →
      step s = .next { s with chan := { s.chan with exercise := s.chan.exercise.map (fun x => { x with retry := less x.retry }) } }) ∧
    (s.phase = .operating →
      step s = .next (State.pump
        { s with
          ctl := if s.ctl.mode = .fallback then { s.ctl with fallbackTime := countUp 65535000 s.ctl.fallbackTime } else s.ctl
          zones := s.zones.map (fun z => { z with holdTimer := less z.holdTimer })
          doors := s.doors.map (fun d => { d with limitTimer := less d.limitTimer })
          chan := { s.chan with
            channels := s.chan.channels.map (fun x => { x with timer := less x.timer, cleanRun := less x.cleanRun })
            ambientTimer := less s.chan.ambientTimer
            exercise := s.chan.exercise.map (fun x =>
              { x with
                hourTime :=
                  match x.bound with
                  | none => x.hourTime
                  | some c =>
                    if counts ∧ (s.channel c).state ≠ .running then countUp 3600000 x.hourTime else x.hourTime
                retry := less x.retry
                runTime := if x.running then countUp (s.settings.exerciseDuration * 1000) x.runTime else x.runTime })
            checkpointTime := if counts then countUp 86400000 s.chan.checkpointTime else s.chan.checkpointTime }
          alloc := { s.alloc with
            stalenessTimer := less s.alloc.stalenessTimer
            slotTimer := less s.alloc.slotTimer
            prompts := s.alloc.prompts.map (fun e => { e with runOnTimer := less e.runOnTimer }) }
          line := { s.line with
            sweepTimer := less s.line.sweepTimer
            inFlight := s.line.inFlight.map (fun w =>
              { w with poll := w.poll.map (fun p => { p with window := p.window - 1 }) }) }
          link := { s.link with silenceTimer := less s.link.silenceTimer } }))

/-- Every command has an outcome that is a next state, never a fault or a refusal, and leaves the commands that wait behind it. In
start-up and held in reset a command other than POWER_ON, UNDERVOLTAGE and RESTART_REINITIALISATION changes nothing, but that the
fault-sense inputs follow their pins (the model's choice, log 5 and 9). -/
def Obligations.EveryCommandHasANextState : Prop :=
  ∀ (c : Instr) (s : State),
    (∃ t, exec c s = .next t ∧ t.pending = s.pending) ∧
    (s.phase ≠ .operating → c ≠ .powerOn → c ≠ .undervoltage → c ≠ .restartReinitialisation →
      exec c s = .next (match c with
        | .faultSenseReport n asserted => { s with sensePins := s.sensePins.set n asserted }
        | _ => s))

/-! ## Invariants -/

/-- The request queue never holds more than 4 frames, nor the notice queue more than 16 notices (R183, R187); and nothing ever waits at a
free transmitter, which has made its choice at every event before (R186). -/
def Obligations.QueuesKeepTheirBounds : Prop :=
  ∀ s t : State, step s = .next t → (s.QueueBounds → t.QueueBounds) ∧ (s.NothingWaits → t.NothingWaits)

/-- Integrals and demands stay within their bounds, and are 0 in STANDBY and WIND-DOWN (R11, R24). -/
def Obligations.DemandsKeepTheirBounds : Prop :=
  ∀ s t : State, s.DemandBounds → step s = .next t → t.DemandBounds

/-- Every group's credit stays within minus its capacity and plus its capacity (R93). -/
def Obligations.CreditKeepsItsBounds : Prop :=
  ∀ s t : State, s.CreditBounds → step s = .next t → t.CreditBounds

/-- No channel draws current in STANDBY, and none is STARTING or RUNNING in WIND-DOWN (R55, R60); the grant order list holds exactly
the STARTING and RUNNING channels, each once (section 2.1). -/
def Obligations.GrantOrderHoldsTheActive : Prop :=
  ∀ s t : State, step s = .next t →
    (s.Quiet → t.Quiet) ∧ (s.Quiet → s.GrantOrderExact → t.GrantOrderExact)

/-- No share group's STARTING and RUNNING channels count more than its peak (R98). -/
def Obligations.GroupsKeepWithinTheirPeaks : Prop :=
  ∀ s t : State, s.Quiet ∧ s.WithinPeaks → step s = .next t → t.Quiet ∧ t.WithinPeaks

/-- Every pool point is free or the source of exactly one input, and the candidate list is exact (R139, R140). -/
def Obligations.PoolPointsAreLentOnce : Prop :=
  ∀ s t : State, s.PoolLent → step s = .next t → t.PoolLent

/-- The combined and drawn requests always stand as R31 and R32 form them. -/
def Obligations.CombinedRequestsStandFormed : Prop :=
  ∀ s t : State, s.RequestsFormed → step s = .next t → t.RequestsFormed

/-- A channel with a prerequisite is STARTING or RUNNING only while its prerequisite is RUNNING (R51). -/
def Obligations.PrerequisitesRunUnderDependents : Prop :=
  ∀ s t : State, s.Quiet ∧ s.PrerequisitesRun → step s = .next t → t.Quiet ∧ t.PrerequisitesRun

/-- The part right after reset meets every invariant above, and the priorities' range that SlotDecisionKeepsTheCeiling asks. -/
def Obligations.ResetMeetsTheInvariants : Prop :=
  State.reset.QueueBounds ∧ State.reset.NothingWaits ∧ State.reset.DemandBounds ∧ State.reset.CreditBounds ∧
  State.reset.Quiet ∧ State.reset.GrantOrderExact ∧ State.reset.WithinPeaks ∧ State.reset.PoolLent ∧ State.reset.RequestsFormed ∧
  State.reset.PrerequisitesRun ∧ State.reset.PrioritiesInRange

/-! ## Start-up and supply -/

/-- POWER_ON: the working configuration and the idle hours come from the areas whose checksum is good, and factory contents with
STORE-FAULT notices stand for a bad one; every live value takes its power-on value; auto-start then validates and enters RUN, or keeps the
first failure as the last validation. On reaching STANDBY the free transmitter begins to send the first STORE-FAULT (R170, R186).
UNDERVOLTAGE: the part is held, the transmitter and the station line idle, a store write cut off with its area left bad, every drive line
off. The auto-start's RUN is EntersRun; what a store area holds stands in the model as data (log 12). -/
def Obligations.PowerOnLoadsTheStore : Prop :=
  ∀ s : State,
    let x := match s.store.configArea with | some c => c | none => {}
    let configLoad : LoadStatus := if s.store.configArea.isSome then .loaded else .defaulted
    let counterLoad : LoadStatus := if s.store.counterArea.isSome then .loaded else .defaulted
    let records := recordPair
      (recordStarted x.settings.exerciseInterval x.exercised[0]? (s.store.counterArea.map StoredCounters.first))
      (recordStarted x.settings.exerciseInterval x.exercised[1]? (s.store.counterArea.map StoredCounters.second))
    let b := s.standbyWith .powerOn x configLoad counterLoad (fun _ => false) records 0
    let starts := x.settings.autoStart = true ∧ configLoad = .loaded
    (¬ starts → exec .powerOn s = .next b.pump) ∧
    (starts → b.Valid → ∃ u, exec .powerOn s = .next u ∧ EntersRun b.pump u ∧
      u.link = { b.pump.link with silenceTimer := u.link.silenceTimer }) ∧
    (starts → ¬ b.Valid →
      ∃ f, exec .powerOn s = .next (State.pump { b with ctl := { b.ctl with lastValidation := .failed f } }) ∧ b.FirstFailure f) ∧
    exec .undervoltage s = .next
      { s with
        phase := .held
        line := { s.line with inFlight := none }
        link := { s.link with tx := .idle, ready := none, rxBuffer := [] }
        store := { s.store with write := .idle, save := none, keptCheckpoint := none } } ∧
    (s.phase = .held → ∀ c, s.driveLine c = .off)

/-- RESTART_REINITIALISATION in start-up: as a power-on, but keep-on-restart keeps the working configuration, the counter area is
not read, LATCHED channels that are still defined stay LATCHED, and the exercise records, their retry timers with them, and the
checkpoint timer are kept. The transmitter makes its first choice (R186). At any other moment it changes nothing (the model's choice,
log 5). -/
def Obligations.RestartReinitialises : Prop :=
  ∀ s : State,
    let x := if s.settings.keepOnRestart then s.asStored else match s.store.configArea with | some c => c | none => {}
    let configLoad : LoadStatus :=
      if s.settings.keepOnRestart then .kept else if s.store.configArea.isSome then .loaded else .defaulted
    let records := recordPair (recordCarried x.settings.exerciseInterval x.exercised[0]? (s.exerciseRecord 0))
      (recordCarried x.settings.exerciseInterval x.exercised[1]? (s.exerciseRecord 1))
    let b := s.standbyWith .restart x configLoad .kept
      (fun c => (s.channel c).defined && decide ((s.channel c).state = .latched)) records s.chan.checkpointTime
    let starts := x.settings.autoStart = true ∧ configLoad ≠ .defaulted
    (s.phase ≠ .startUp → exec .restartReinitialisation s = .next s) ∧
    (s.phase = .startUp → ¬ starts → exec .restartReinitialisation s = .next b.pump) ∧
    (s.phase = .startUp → starts → b.Valid →
      ∃ u, exec .restartReinitialisation s = .next u ∧ EntersRun b.pump u ∧
        u.link = { b.pump.link with silenceTimer := u.link.silenceTimer }) ∧
    (s.phase = .startUp → starts → ¬ b.Valid →
      ∃ f, exec .restartReinitialisation s = .next
          (State.pump { b with ctl := { b.ctl with lastValidation := .failed f } }) ∧
        b.FirstFailure f)

/-! ## The coach link -/

/-- REPLY_SENT: the transmitter is free and chooses first, so that one waiting notice goes between two replies (R186); the request
leaves the queue and the frame behind it is taken, in FALLBACK by ending it (R179, R184): a frame that carries a well-formed request
has that request's effect, with the frames behind it still queued, and one of unknown kind or wrong length is refused (R185). After the
reply DONE of a RESTART the queues are emptied, every drive line goes off, a sweep in flight is abandoned, a checkpoint write is cut
off, every timer stops but the hour, retry and checkpoint timers, and the part is in start-up (R175). With no reply in transmission it
changes nothing but the transmitter's choice (log 5). -/
def Obligations.ReplySentEndsTheRequest : Prop :=
  ∀ (s : State) (r : Reply), s.phase = .operating →
    let freed : State := State.pump { s with link := { s.link with tx := .idle } }
    let queued := fun (u : State) (rest : List Frame) =>
      ({ u with link := { u.link with requests := u.link.requests ++ rest } } : State)
    let emptied : State := { freed with link := { freed.link with requests := [] } }
    let refused := fun (f : Frame) (rest : List Frame) (code : ResultCode) =>
      let t := emptied.atTaking
      State.pump { t with link := { t.link with
        requests := f :: rest, ready := some { kind := f.kind, tag := f.tag, code := code, content := .nothing } } }
    ((∀ q, s.link.tx ≠ .reply q) → exec .replySent s = .next s.pump) ∧
    (s.link.tx = .reply r → ¬ (r.kind = 0x1A ∧ r.code = .done) → s.link.requests.length ≤ 1 →
      exec .replySent s = .next emptied.pump) ∧
    (∀ h i rest, s.link.tx = .reply r → ¬ (r.kind = 0x1A ∧ r.code = .done) → i.wellFormed = true → i.isRequest = true →
      s.link.requests = h :: frameOf i :: rest → (∀ tag, i ≠ .status tag) →
      ∃ u, exec i emptied = .next u ∧ exec .replySent s = .next (queued u rest)) ∧
    (∀ h tag rest, s.link.tx = .reply r → ¬ (r.kind = 0x1A ∧ r.code = .done) → (Instr.status tag).wellFormed = true →
      s.link.requests = h :: frameOf (.status tag) :: rest →
      let t := emptied.atTaking
      exec .replySent s = .next (queued
        (State.answered
          { t with ctl := { t.ctl with fallbackFlag := false }, link := { t.link with noticesLost := false } }
          (.status tag) .done (.status (t.statusGathered (rest.length + 1)))) rest)) ∧
    (∀ h f rest, s.link.tx = .reply r → ¬ (r.kind = 0x1A ∧ r.code = .done) → s.link.requests = h :: f :: rest →
      (requestKinds.contains f.kind = false → exec .replySent s = .next (refused f rest .unknownKind)) ∧
      (requestKinds.contains f.kind = true → wrongLength f.kind f.body = true →
        exec .replySent s = .next (refused f rest .malformed))) ∧
    (s.link.tx = .reply r → r.kind = 0x1A → r.code = .done →
      exec .replySent s = .next
        { s with
          phase := .startUp
          ctl := { s.ctl with mode := .standby }
          zones := s.zones.map (fun z => { z with holdTimer := none })
          doors := s.doors.map (fun d => { d with limitTimer := none })
          chan := { s.chan with
            channels := s.chan.channels.map (fun x => { x with timer := none, cleanRun := none })
            ambientTimer := none
            exercise := s.chan.exercise.map (fun x => { x with running := false }) }
          alloc := { s.alloc with
            stalenessTimer := none, slotTimer := none, prompts := s.alloc.prompts.map (fun e => { e with runOnTimer := none }) }
          line := { s.line with sweepTimer := none, inFlight := none }
          link := { s.link with
            tx := .idle, requests := [], notices := [], noticesLost := false, silenceTimer := none, rxBuffer := [] }
          store := { s.store with write := .idle, save := none, keptCheckpoint := none } } ∧
      ∀ t c, exec .replySent s = .next t → t.driveLine c = .off)

/-- The transmitter's choice (R186): a ready reply before any notice, the oldest notice otherwise, nothing while a frame is being
sent or outside operation. NOTICE_SENT frees the transmitter and the choice is made. A notice joins a queue of fewer than 16, and
at 16 is dropped and sets the notices-lost flag (R187). A request that finds others in the queue waits behind them untaken, and a
queue of 4 discards it and counts it in QUEUE-FULL (R183 step 3, R184 step 1; the row as an arrival, log 1). -/
def Obligations.LinkSendsAndQueues : Prop :=
  ∀ (s : State) (n : Notice),
    s.notify n = s.withNotice n ∧
    (s.phase ≠ .operating ∨ s.link.tx ≠ .idle → s.pump = s) ∧
    (∀ r, s.phase = .operating → s.link.tx = .idle → s.link.ready = some r →
      s.pump = { s with link := { s.link with ready := none, tx := .reply r } }) ∧
    (∀ rest, s.phase = .operating → s.link.tx = .idle → s.link.ready = none → s.link.notices = n :: rest →
      s.pump = { s with link := { s.link with notices := rest, tx := .notice n } }) ∧
    (s.phase = .operating → s.link.tx = .idle → s.link.ready = none → s.link.notices = [] → s.pump = s) ∧
    (s.phase = .operating → s.link.tx = .notice n →
      exec .noticeSent s = .next (State.pump { s with link := { s.link with tx := .idle } })) ∧
    (s.phase = .operating → (∀ m, s.link.tx ≠ .notice m) → exec .noticeSent s = .next s.pump) ∧
    (∀ (i : Instr) (h : Frame) (rest : List Frame), i.isRequest = true → s.phase = .operating → s.link.requests = h :: rest →
      exec i s = .next (State.pump
        (if rest.length < 3 then { s with link := { s.link with requests := s.link.requests ++ [frameOf i] } }
         else { s with link := { s.link with counts := { s.link.counts with
           queueFull := if s.link.counts.queueFull < 65535 then s.link.counts.queueFull + 1 else 65535 } } })))

/-- Frames are discarded without reply (R182): an impossible length raises LENGTH, a gap raises ABANDONED and its last character
begins a new frame when it is the start byte, a check that does not match raises CHECK. Nothing else changes. In start-up and in
reset they are not even counted. A body longer than 56 characters is an impossible length (log 6). -/
def Obligations.FaultyFramesAreDiscarded : Prop :=
  ∀ (s : State) (length : Nat) (next kind tag : Byte) (body : List Byte) (check : BitVec 16),
    let up := fun (n : Nat) => if n < 65535 then n + 1 else 65535
    (s.phase ≠ .operating →
      exec (.frameLengthImpossible length) s = .next s ∧ exec (.frameAbandoned next) s = .next s ∧
      exec (.frameComplete kind tag body check) s = .next s) ∧
    (s.phase = .operating →
      (length < 2 ∨ 58 < length →
        exec (.frameLengthImpossible length) s = .next (State.pump
          { s with link := { s.link with
              rxBuffer := [], counts := { s.link.counts with length := up s.link.counts.length } } })) ∧
      exec (.frameAbandoned next) s = .next (State.pump
        { s with link := { s.link with
            rxBuffer := if next = 0xC3 then [0xC3] else []
            counts := { s.link.counts with abandoned := up s.link.counts.abandoned } } }) ∧
      (56 < body.length →
        exec (.frameComplete kind tag body check) s = .next (State.pump
          { s with link := { s.link with
              rxBuffer := [], counts := { s.link.counts with length := up s.link.counts.length } } })) ∧
      (body.length ≤ 56 → check ≠ crc (BitVec.ofNat 8 (body.length + 2) :: kind :: tag :: body) →
        exec (.frameComplete kind tag body check) s = .next (State.pump
          { s with link := { s.link with
              rxBuffer := [], counts := { s.link.counts with check := up s.link.counts.check } } })))

/-- A valid frame raises FRAMES-RECEIVED, restarts the link silence timer in RUN, ends FALLBACK with the cause FRAME, and then
joins the request queue, where it is taken at once if the queue was empty (R183, R184). A frame that carries a well-formed request
`i` has the effect of `i` on the part so left. -/
def Obligations.ValidFrameIsTaken : Prop :=
  ∀ (s : State) (i : Instr) (kind tag : Byte) (body : List Byte),
    s.phase = .operating → i.wellFormed = true → encodeRequest i = some (kind.toNat, tag.toNat, body) →
    body.length ≤ 56 →
    let c := crc (BitVec.ofNat 8 (body.length + 2) :: kind :: tag :: body)
    let heard : State :=
      { s with link := { s.link with
          rxBuffer := []
          counts := { s.link.counts with
            framesReceived := if s.link.counts.framesReceived < 65535 then s.link.counts.framesReceived + 1 else 65535 } } }
    let present : State :=
      match s.ctl.mode with
      | .run => { heard with link := { heard.link with silenceTimer := some (s.settings.linkSilence * 1000) } }
      | .fallback => heard.backInRun .frame
      | .standby => heard
      | .windDown => heard
    exec (.frameComplete kind tag body c) s = exec i present

/-! ## Configuration requests -/

/-- PART-SETTINGS (R193): outside STANDBY WRONG-MODE; the first field out of range named; otherwise every setting takes the
request's value, the values in force take the safe ones while the source is SAFE (R63), and each exercise record forms its due flag
against the new interval (R158). A channel's exercise request follows its record where the flag moved (log 40). The last clauses
are over channel tables at rest, as STANDBY's are. -/
def Obligations.PartSettingsReplacesEverySetting : Prop :=
  ∀ (tag : Nat) (b : SettingsBody) (s : State), s.Ready →
    let i := Instr.partSettings tag b
    let t := s.atTaking
    let bad := firstBad
      [(1, within 0 4000 b.safeCeiling), (2, within 0 8 b.safeThreshold), (3, within 0 3 b.preemptionWidth),
       (4, withinInt 160 300 b.fallbackSetpoint), (5, within 2 60 b.linkSilence), (6, within 0 1 b.autoStart),
       (7, within 0 1 b.keepOnRestart), (8, within 0 1800 b.doorHoldLimit), (9, within 0 50 b.agreementTolerance),
       (10, within 24 336 b.exerciseInterval), (11, within 60 1800 b.exerciseDuration), (12, within 0 1 b.lineRate)]
    let due := fun (x : ExerciseRecord) =>
      { x with due := decide (b.exerciseInterval ≤ x.idleHours)
               retry := if x.due = true ∧ x.idleHours < b.exerciseInterval then none else x.retry }
    (t.ctl.mode ≠ .standby → exec i s = .next (t.refusesMode i)) ∧
    (∀ f, t.ctl.mode = .standby → bad = some f → exec i s = .next (t.answered i .badField (.field f))) ∧
    (t.ctl.mode = .standby → bad = none → ∃ u, exec i s = .next u ∧ Answers t u i .done .nothing ∧
      u.settings =
        { safeCeiling := b.safeCeiling, safeThreshold := b.safeThreshold, preemptionWidth := b.preemptionWidth
          fallbackSetpoint := b.fallbackSetpoint, linkSilence := b.linkSilence, autoStart := decide (b.autoStart = 1)
          keepOnRestart := decide (b.keepOnRestart = 1), doorHoldLimit := b.doorHoldLimit
          agreementTolerance := b.agreementTolerance, exerciseInterval := b.exerciseInterval
          exerciseDuration := b.exerciseDuration, lineRate := if b.lineRate = 0 then .r38400 else .r115200 } ∧
      u.alloc =
        (if t.alloc.source = .safe then { t.alloc with ceiling := b.safeCeiling, threshold := b.safeThreshold } else t.alloc) ∧
      u.link.lineRate = t.link.lineRate ∧ u.ctl = t.ctl ∧ u.zones = t.zones ∧ u.doors = t.doors ∧ u.line = t.line ∧
      u.sel = t.sel ∧ u.store = t.store ∧
      (∀ r, r < 2 → (∀ c, (t.channel c).active = false) → u.exerciseRecord r = due (t.exerciseRecord r)) ∧
      ((∀ c, (t.channel c).combined = false ∧ (t.channel c).drawn = false ∧ (t.channel c).state ≠ .waiting ∧
          (t.channel c).state.drawing = false) →
        (∀ c, u.channel c = { t.channel c with exercise := (u.channel c).exercise }) ∧
        (∀ r c, r < 2 → (t.exerciseRecord r).bound = some c → (t.exerciseRecord (1 - r)).bound ≠ some c →
          (t.channel c).defined = true →
          (u.channel c).exercise =
            (if (u.exerciseRecord r).due = (t.exerciseRecord r).due then (t.channel c).exercise
             else (u.exerciseRecord r).due && (u.exerciseRecord r).retry.isNone))))

/-- ZONE-DEF (R1, R2): outside STANDBY WRONG-MODE; the first field out of range named; otherwise the whole record takes the
request's definition and a fresh live part, its effective values reported to the stations where they differ from the record's
earlier ones (R7, log 38; a remove-flag byte that is neither value is field 2, log 15). The removal returns the record to the factory
contents and changes nothing else. -/
def Obligations.ZoneDefReplacesTheZone : Prop :=
  ∀ (tag zone : Nat) (b : ZoneBody) (s : State), s.Ready →
    let t := s.atTaking
    let d := Instr.zoneDef tag b
    let r := Instr.zoneDefRemove tag zone
    let tuning := match b.tuning with | some x => x | none => ⟨20, 4, 5, 100, 300, 10⟩
    let mode : ZoneMode := match b.initialMode with | 1 => .vent | 2 => .heat | 3 => .cool | 4 => .auto | _ => .off
    let defn : ZoneDef :=
      { doorGroup := b.doorGroup, panel := if b.panelStation = 255 then none else some ⟨b.panelStation, b.panelNumber⟩
        initialSetpoint := b.initialSetpoint, initialMode := mode, kp := tuning.kp, ki := tuning.ki
        deadband := tuning.deadband, rateLimit := tuning.rateLimit, ventFloor := tuning.ventFloor
        nudgeLimit := tuning.nudgeLimit }
    exec d s = .next
      (if t.ctl.mode ≠ .standby then t.refusesMode d
       else match firstBad
           [(1, within 1 12 b.zone), (2, decide (b.removeFlag = 0)), (3, optWithin 1 4 b.doorGroup),
            (4, decide (b.panelStation = 255) || (within 0 15 b.panelStation && within 1 6 b.panelNumber)),
            (5, withinInt 160 300 b.initialSetpoint), (6, within 0 4 b.initialMode), (7, within 0 100 tuning.kp),
            (8, within 0 64 tuning.ki), (9, within 0 20 tuning.deadband), (10, within 10 1000 tuning.rateLimit),
            (11, within 0 1000 tuning.ventFloor), (12, within 0 20 tuning.nudgeLimit)] with
         | some f => t.answered d .badField (.field f)
         | none => (t.zoneReplaced b.zone (freshZone defn)).answered d .done .nothing) ∧
    exec r s = .next
      (if t.ctl.mode ≠ .standby then t.refusesMode r
       else if zone < 1 ∨ 12 < zone then t.answered r .badField (.field 1)
       else if (t.zone zone).defined = true then (t.withZone zone factoryZone).answered r .done .nothing
       else t.answered r .noSuchItem .nothing)

/-- CHANNEL-DEF (R26, R27): outside STANDBY WRONG-MODE; the first field out of range named; otherwise the definition part takes
the request's values (a SWITCH channel's Lmin 100) and the live part is set, FAULTED and LATCHED and the fault count kept, the
ambient inhibit that of a first evaluation (R38). The removal returns the record to the factory contents, the fault-sense level
recorded. The exercise records are bound again (R157), and a channel keeps its exercise request only where its record is kept and gives
it (R159, log 29). A remove-flag byte that is neither value is field 2 (log 15). -/
def Obligations.ChannelDefReplacesTheChannel : Prop :=
  ∀ (tag channel : Nat) (b : ChannelBody) (s : State), s.Ready →
    let t := s.atTaking
    let d := Instr.channelDef tag b
    let r := Instr.channelDefRemove tag channel
    let old := t.channel b.channel
    let defn : ChannelDef :=
      { kind := if b.kind = 0 then .switch else .pwm
        direction := match b.direction with | 0 => .heat | 1 => .cool | _ => .air
        served := b.served, tOn := b.tOn, tOff := b.tOff, lmin := if b.kind = 0 then 100 else b.lmin, rated := b.rated
        surge := b.surge, startTime := b.startTime, minOn := b.minOn, minOff := b.minOff, afterRun := b.afterRun
        afterRunCurrent := b.afterRunCurrent, restartAllowed := decide (b.restart = 0), prerequisite := b.prerequisite
        priority := b.priority, group := b.group, ambientLow := b.ambientLow, ambientHigh := b.ambientHigh
        failAction := if b.failAction = 0 then .pass else .block, exercise := decide (b.exercise = 1) }
    let outside := (∃ lo, b.ambientLow = some lo ∧ t.chan.ambientValue < lo) ∨
      (∃ hi, b.ambientHigh = some hi ∧ hi < t.chan.ambientValue)
    let bad := firstBad
      [(1, within 0 31 b.channel), (2, decide (b.removeFlag = 0)), (3, within 0 1 b.kind), (4, within 0 2 b.direction),
       (5, within 1 12 b.served.length && b.served.all (within 1 12) && noRepeat b.served), (6, within 1 990 b.tOn),
       (7, within 0 989 b.tOff), (8, decide (b.kind ≠ 1) || within 10 100 b.lmin), (9, within 0 600 b.rated),
       (10, within 0 1200 b.surge), (11, within 0 10 b.startTime), (12, within 0 600 b.minOn), (13, within 0 600 b.minOff),
       (14, within 0 300 b.afterRun), (15, within 0 600 b.afterRunCurrent), (16, within 0 1 b.restart),
       (17, optWithin 0 31 b.prerequisite && decide (b.prerequisite ≠ some b.channel)), (18, within 0 7 b.priority),
       (19, within 0 7 b.group), (20, optWithinInt (-400) 850 b.ambientLow), (21, optWithinInt (-400) 850 b.ambientHigh),
       (22, within 0 1 b.failAction), (23, within 0 1 b.exercise)]
    let framed := fun (i : Instr) (c : Nat) (u : State) =>
      Answers t u i .done .nothing ∧ u.ctl = t.ctl ∧ u.settings = t.settings ∧ u.zones = t.zones ∧ u.doors = t.doors ∧
      u.alloc = t.alloc ∧ u.line = t.line ∧ u.sel = t.sel ∧ u.store = t.store ∧
      u.chan = { t.chan with channels := u.chan.channels, exercise := u.chan.exercise } ∧
      (let flagged := (List.range 32).filter (fun e => (u.channel e).defined && (u.channel e).defn.exercise)
       ∀ e, e ≠ c → u.channel e =
         { t.channel e with
           exercise := (t.channel e).exercise && (List.range 2).any (fun k =>
             decide ((t.exerciseRecord k).bound = some e ∧ flagged[k]? = some e) && (t.exerciseRecord k).due &&
             (t.exerciseRecord k).retry.isNone) }) ∧
      (∀ k, k < 2 →
        let flagged := (List.range 32).filter (fun e => (u.channel e).defined && (u.channel e).defn.exercise)
        u.exerciseRecord k =
          (if (t.exerciseRecord k).bound = flagged[k]? then t.exerciseRecord k
           else { bound := flagged[k]?, idleHours := 0, hourTime := 0, due := false, retry := none, runTime := 0,
                  running := false }))
    (t.ctl.mode ≠ .standby → exec d s = .next (t.refusesMode d) ∧ exec r s = .next (t.refusesMode r)) ∧
    (t.ctl.mode = .standby →
      (∀ f, bad = some f → exec d s = .next (t.answered d .badField (.field f))) ∧
      (bad = none → ∃ u, exec d s = .next u ∧ framed d b.channel u ∧
        u.channel b.channel =
          { factoryChannel old.sense with
            defined := true, defn := defn, target := defn.least, faults := old.faults
            inhibit := (defn.ambientLow.isSome || defn.ambientHigh.isSome) &&
              (match t.chan.ambientStatus with
               | .expired => decide (b.failAction ≠ 0)
               | .valid => (u.channel b.channel).inhibit
               | .held => (u.channel b.channel).inhibit)
            state := if old.state = .faulted ∨ old.state = .latched then old.state
              else if 0 < b.minOff then .lockout else .idle
            timer := if old.state = .faulted then old.timer else if old.state = .latched then none
              else startedAt b.minOff } ∧
        (t.chan.ambientStatus ≠ .expired → defn.ambientLow.isSome = true ∨ defn.ambientHigh.isSome = true →
          ((u.channel b.channel).inhibit = true ↔ outside))) ∧
      (channel ≤ 31 → (t.channel channel).defined = true → ∃ u, exec r s = .next u ∧ framed r channel u ∧
        u.channel channel = factoryChannel (t.channel channel).sense) ∧
      (31 < channel → exec r s = .next (t.answered r .badField (.field 1))) ∧
      (channel ≤ 31 → (t.channel channel).defined = false → exec r s = .next (t.answered r .noSuchItem .nothing)))


/-- GROUP-DEF (R88): outside STANDBY WRONG-MODE; the first field out of range named; otherwise the definition part takes the
request's values, the credit is the new capacity and both refusal counts are 0. Refill and capacity are those of R87. -/
def Obligations.GroupDefReplacesTheGroup : Prop :=
  ∀ (tag group peak divisor burst : Nat) (s : State), s.Ready →
    let i := Instr.groupDef tag group peak divisor burst
    let t := s.atTaking
    let d : GroupDef := { peak := peak, divisor := divisor, burst := burst }
    d.refill = peak / divisor ∧ d.capacity = peak * burst ∧
    exec i s = .next
      (if t.ctl.mode ≠ .standby then t.refusesMode i
       else if 7 < group then t.answered i .badField (.field 1)
       else if 4000 < peak then t.answered i .badField (.field 2)
       else if divisor < 1 ∨ 16 < divisor then t.answered i .badField (.field 3)
       else if burst < 4 ∨ 256 < burst ∨ burst % 4 ≠ 0 then t.answered i .badField (.field 4)
       else (t.withGroup group
         { defn := d, credit := (peak * burst : Nat), creditRefusals := 0, peakRefusals := 0 }).answered i .done .nothing)

/-- ROTA-LOAD (R83): outside STANDBY WRONG-MODE; the first failing field named (an entry count or a sum that fails is the count
field, log 28); otherwise the length and the carried entries are written, entries from the length on are EMPTY, the others keep
their contents, the rota position is 0 and the first-slot flag set. -/
def Obligations.RotaLoadWritesTheRota : Prop :=
  ∀ (tag length start : Nat) (entries : List (Option Nat)) (s : State), s.Ready →
    let i := Instr.rotaLoad tag length start entries
    let t := s.atTaking
    let bad := firstBad
      [(1, within 0 64 length), (2, within 0 63 start),
       (3, within 0 48 entries.length && decide (start + entries.length ≤ length)), (4, entries.all (optWithin 0 31))]
    (t.ctl.mode ≠ .standby → exec i s = .next (t.refusesMode i)) ∧
    (∀ f, t.ctl.mode = .standby → bad = some f → exec i s = .next (t.answered i .badField (.field f))) ∧
    (t.ctl.mode = .standby → bad = none → ∃ rota : Table (Option Nat) 64,
      exec i s = .next (State.answered
        { t with alloc := { t.alloc with rotaLength := length, rota := rota, rotaPosition := 0, firstSlot := true } }
        i .done .nothing) ∧
      ∀ k, k < 64 → rota.get none k =
        if length ≤ k then none
        else if start ≤ k ∧ k < start + entries.length then entries.getD (k - start) none
        else t.alloc.rota.get none k)

/-- PROMPT-DEF (R109, R110): outside STANDBY WRONG-MODE; the first failing field named, the channel field also where another entry
names the channel; otherwise the entry takes the request's values with its run-on timer stopped. The removal empties an entry, and finds
NO-SUCH-ITEM in an empty one. STATION-DEF (R118, R119): outside STANDBY WRONG-MODE; the first failing field named, the point list field
where the total of points would pass 64; otherwise the record is replaced with a fresh live part and its points at NEVER, and a poll
outstanding to it is no longer acted on (R131). The removal returns the record to the factory contents. A remove-flag byte that is
neither value is field 2 (log 15). -/
def Obligations.PromptAndStationDefsReplace : Prop :=
  (∀ (tag entry flag channel doorGroup runOn : Nat) (s : State), s.Ready →
      let d := Instr.promptDef tag entry flag channel doorGroup runOn
      let r := Instr.promptDefRemove tag entry
      let t := s.atTaking
      let elsewhere := (List.range 4).any (fun e =>
        decide (e ≠ entry) && decide ((t.promptEntry e).defn.map PromptDef.channel = some channel))
      exec d s = .next
        (if t.ctl.mode ≠ .standby then t.refusesMode d
         else if 3 < entry then t.answered d .badField (.field 1)
         else if flag ≠ 0 then t.answered d .badField (.field 2)
         else if 31 < channel ∨ elsewhere = true then t.answered d .badField (.field 3)
         else if doorGroup < 1 ∨ 4 < doorGroup then t.answered d .badField (.field 4)
         else if 120 < runOn then t.answered d .badField (.field 5)
         else (t.withPrompt entry { defn := some ⟨channel, doorGroup, runOn⟩, runOnTimer := none }).answered d .done .nothing) ∧
      exec r s = .next
        (if t.ctl.mode ≠ .standby then t.refusesMode r
         else if 3 < entry then t.answered r .badField (.field 1)
         else if (t.promptEntry entry).defn = none then t.answered r .noSuchItem .nothing
         else (t.withPrompt entry { defn := none, runOnTimer := none }).answered r .done .nothing)) ∧
  (∀ (tag station : Nat) (b : StationBody) (s : State), s.Ready →
      let d := Instr.stationDef tag b
      let r := Instr.stationDefRemove tag station
      let t := s.atTaking
      let total := ((List.range 16).map (fun j =>
        if j = b.station then 0 else if (t.station j).defined then (t.station j).defn.kinds.length else 0)).sum + b.kinds.length
      let defn : StationDef :=
        { address := b.address, enabled := decide (b.enabled = 1)
          kinds := b.kinds.map (fun k => if k = 0 then .temp else .nudge)
          policy := match b.policy with | 1 => .everySweep | 2 => .onChange | _ => .none
          panelZone := b.panelZone }
      exec d s = .next
        (if t.ctl.mode ≠ .standby then t.refusesMode d
         else match firstBad
             [(1, within 0 15 b.station), (2, decide (b.removeFlag = 0)), (3, within 1 30 b.address),
              (4, within 0 1 b.enabled), (5, within 1 6 b.kinds.length && b.kinds.all (within 0 1)), (6, within 0 2 b.policy),
              (7, optWithin 1 12 b.panelZone && (decide (b.policy = 0) || b.panelZone.isSome)), (5, decide (total ≤ 64))] with
           | some f => t.answered d .badField (.field f)
           | none => ((t.withStation b.station (freshStation defn)).disowned b.station).answered d .done .nothing) ∧
      exec r s = .next
        (if t.ctl.mode ≠ .standby then t.refusesMode r
         else if 15 < station then t.answered r .badField (.field 1)
         else if (t.station station).defined = true then
           ((t.withStation station factoryStation).disowned station).answered r .done .nothing
         else t.answered r .noSuchItem .nothing))

/-- INPUT-DEF (R136, R137): outside STANDBY WRONG-MODE; the first failing field named; otherwise the input leaves the candidate
list, its pool point returns to its place on the free list, and the record takes the request's definition and a fresh live part.
The removal does the same and returns the record to the factory contents. A remove-flag byte that is neither value is field 2
(log 15). -/
def Obligations.InputDefReplacesTheInput : Prop :=
  ∀ (tag input flag : Nat) (primary : PointBody) (alternates : List PointBody) (s : State), s.Ready →
    let d := Instr.inputDef tag input flag primary alternates
    let r := Instr.inputDefRemove tag input
    let t := s.atTaking
    let named := fun (p : PointBody) => within 0 15 p.station && within 1 6 p.number
    let bad := firstBad
      [(1, within 1 13 input), (2, decide (flag = 0)), (3, named primary),
       (4, within 0 2 alternates.length && alternates.all named)]
    let replaced := fun (i : Instr) (x : InputDef) =>
      ∃ free : List Nat,
        exec i s = .next (State.answered
          { t with sel := { t.sel with
              inputs := t.sel.inputs.set1 input (freshInput x), freeList := free
              candidates := t.sel.candidates.filter (fun c => decide (c ≠ input)) } } i .done .nothing) ∧
        (∀ k, k ∈ free ↔ k ∈ t.sel.freeList ∨ (t.input input).source = .pool k) ∧
        (t.sel.freeList.Pairwise (· < ·) → free.Pairwise (· < ·))
    (t.ctl.mode ≠ .standby → exec d s = .next (t.refusesMode d) ∧ exec r s = .next (t.refusesMode r)) ∧
    (t.ctl.mode = .standby →
      (∀ f, bad = some f → exec d s = .next (t.answered d .badField (.field f))) ∧
      (bad = none → replaced d
        { primary := some ⟨primary.station, primary.number⟩, alternates := alternates.map (fun p => ⟨p.station, p.number⟩) }) ∧
      (input < 1 ∨ 13 < input → exec r s = .next (t.answered r .badField (.field 1))) ∧
      (1 ≤ input → input ≤ 13 → (t.input input).defn.primary = none →
        exec r s = .next (t.answered r .noSuchItem .nothing)) ∧
      (1 ≤ input → input ≤ 13 → (t.input input).defn.primary ≠ none → replaced r { primary := none, alternates := [] }))

/-- POOL-DEF (R138): outside STANDBY WRONG-MODE; the first failing field named; otherwise the pool takes the points, every input
on a pool point becomes INVALID with a notice in input order, and the free list holds every index. -/
def Obligations.PoolDefReplacesThePool : Prop :=
  ∀ (tag : Nat) (points : List PointBody) (s : State), s.Ready →
    let i := Instr.poolDef tag points
    let t := s.atTaking
    let lent : LogicalInput → Bool := fun x => match x.source with | .pool _ => true | _ => false
    let notices := ((List.range 14).filter (fun k => lent (t.input k))).map (fun k => Notice.inputInvalid k (t.input k).value)
    exec i s = .next
      (if t.ctl.mode ≠ .standby then t.refusesMode i
       else if 4 < points.length then t.answered i .badField (.field 1)
       else if points.all (fun p => within 0 15 p.station && within 1 6 p.number) = false then
         t.answered i .badField (.field 2)
       else State.answered
         (notices.foldl State.withNotice
           { t with sel := { t.sel with
               pool := points.map (fun p => ⟨p.station, p.number⟩), freeList := List.range points.length
               inputs := t.sel.inputs.map (fun (x : LogicalInput) =>
                 if lent x = true then { x with state := .invalid, source := .none, verifyCount := 0 } else x) } })
         i .done .nothing)

/-! ## Live requests -/

/-- ZONE-SETPOINT (R4): WRONG-MODE in WIND-DOWN; a bad zone number, an undefined zone and a bad mode refused in that order;
otherwise the commanded values take the clamped setpoint and the mode, and in STANDBY the effective values follow at once (R6),
reported to the stations where they change (R7). That the reply CLAMPED carries its code alone is the model's choice (log 45). -/
def Obligations.ZoneSetpointCommandsTheZone : Prop :=
  ∀ (tag zone mode : Nat) (setpoint : Int) (s : State), s.Ready →
    let i := Instr.zoneSetpoint tag zone setpoint mode
    let t := s.atTaking
    let v := between 160 300 setpoint
    let m : ZoneMode := match mode with | 1 => .vent | 2 => .heat | 3 => .cool | 4 => .auto | _ => .off
    let z := { t.zone zone with commandedSetpoint := v, commandedMode := m }
    exec i s = .next
      (if t.ctl.mode = .windDown then t.refusesMode i
       else if zone < 1 ∨ 12 < zone then t.answered i .badField (.field 1)
       else if (t.zone zone).defined = false then t.answered i .noSuchItem .nothing
       else if 4 < mode then t.answered i .badField (.field 3)
       else (t.zoneReplaced zone
           (if t.ctl.mode = .standby then { z with effectiveSetpoint := v, effectiveMode := m } else z)).answered i
         (if v = setpoint then .done else .clamped) .nothing)

/-- SUPPLY (R59, R60): the clamped values come into force, the source is SUPPLY, the stale flag is cleared, and the reply carries
them; in RUN the staleness timer restarts at 5 s. -/
def Obligations.SupplySetsTheValuesInForce : Prop :=
  ∀ (tag ceiling threshold : Nat) (s : State), s.Ready →
    let i := Instr.supply tag ceiling threshold
    let t := s.atTaking
    let code : ResultCode := if ceiling ≤ 4000 ∧ threshold ≤ 8 then .done else .clamped
    let content := Content.supply (min 4000 ceiling) (min 8 threshold)
    let forced : State :=
      { t with
        ctl := { t.ctl with supplyStale := false }
        alloc := { t.alloc with
          ceiling := min 4000 ceiling, threshold := min 8 threshold, source := .supply
          stalenessTimer := if t.ctl.mode = .run then some 5000 else t.alloc.stalenessTimer } }
    (t.ctl.mode ≠ .run → exec i s = .next (forced.answered i code content)) ∧
    (t.ctl.mode = .run → ∃ u, exec i s = .next u ∧ Answers t u i code content ∧
      u.ctl = forced.ctl ∧ u.alloc = forced.alloc ∧ u.zones = t.zones ∧ u.doors = t.doors ∧ u.line = t.line ∧
      u.sel = t.sel ∧ u.store = t.store ∧ u.settings = t.settings)

/-- The forced release at a SUPPLY in RUN (R64): afterwards every STARTING and RUNNING channel has a priority below the threshold,
and the total stands within the ceiling unless none is left; a channel that stays in service keeps its level and its timer. Where
nothing lies above the values nothing is released; where one release of the head of the shedding order is enough, that channel
alone is released. -/
def Obligations.ForcedReleaseSheds : Prop :=
  ∀ (tag ceiling threshold : Nat) (s : State), s.Ready → s.atTaking.ctl.mode = .run → s.GrantOrderExact →
    s.PrioritiesInRange →
    let i := Instr.supply tag ceiling threshold
    let t := s.atTaking
    let code : ResultCode := if ceiling ≤ 4000 ∧ threshold ≤ 8 then .done else .clamped
    let content := Content.supply (min 4000 ceiling) (min 8 threshold)
    let forced : State :=
      { t with
        ctl := { t.ctl with supplyStale := false }
        alloc := { t.alloc with
          ceiling := min 4000 ceiling, threshold := min 8 threshold, source := .supply, stalenessTimer := some 5000 } }
    let below := ∀ c, (t.channel c).active = true → (t.channel c).defn.priority < min 8 threshold
    (∃ u, exec i s = .next u ∧ u.CeilingBinds ∧
      ∀ c, (u.channel c).active = true →
        (u.channel c).defn.priority < min 8 threshold ∧ (t.channel c).active = true ∧
        (u.channel c).state = (t.channel c).state ∧ (u.channel c).applied = (t.channel c).applied ∧
        (u.channel c).timer = (t.channel c).timer) ∧
    (below → forced.CeilingBinds → exec i s = .next (forced.answered i code content)) ∧
    (∀ c, t.ShedFirst c → t.Alone c →
      let after := forced.outOfService c (t.channel c).afterRelease
      (below ∧ ¬ forced.CeilingBinds) ∨
        (min 8 threshold ≤ (t.channel c).defn.priority ∧
          ∀ d, d ≠ c → (t.channel d).active = true → (t.channel d).defn.priority < min 8 threshold) →
      after.CeilingBinds → exec i s = .next (after.answered i code content))

/-- DOOR in RUN alone (R104), the group and then the state checked; a repeated opening or closing changes nothing (R106). A closing
(R107): the group CLOSED with its timer and flag cleared, its DOOR-HOLD zones NORMAL, its entries' run-on timers started, and the
prompt requests of its run-on-0 entries ended; nothing is granted. A group with no such entry changes no channel; the channel of one
such entry, standing alone, is released at once where it runs past its minimum on and asks for nothing else, waits no longer where it
waited, and otherwise stays as it is until its minimum on (R111, R43). -/
def Obligations.DoorClosingEndsTheHolds : Prop :=
  ∀ (tag group state : Nat) (s : State), s.Ready →
    let i := Instr.door tag group state
    let t := s.atTaking
    let names := fun (e : PromptEntry) => decide (e.defn.map PromptDef.doorGroup = some group)
    let closed : State :=
      { t with
        doors := t.doors.set1 group { isOpen := false, limitTimer := none, limitExpired := false }
        zones := t.zones.map (fun z =>
          if z.defn.doorGroup = some group ∧ z.hold = .doorHold then { z with hold := .normal } else z)
        alloc := { t.alloc with prompts := t.alloc.prompts.map (fun e =>
          match e.defn with
          | some d => if d.doorGroup = group then { e with runOnTimer := startedAt d.runOn } else e
          | none => e) } }
    (t.ctl.mode ≠ .run → exec i s = .next (t.refusesMode i)) ∧
    (t.ctl.mode = .run → group < 1 ∨ 4 < group → exec i s = .next (t.answered i .badField (.field 1))) ∧
    (t.ctl.mode = .run → 1 ≤ group → group ≤ 4 → 1 < state → exec i s = .next (t.answered i .badField (.field 2))) ∧
    (t.ctl.mode = .run → 1 ≤ group → group ≤ 4 → state ≤ 1 → (t.doorGroup group).isOpen = decide (state = 1) →
      exec i s = .next (t.answered i .done (.door group (decide (state = 1)) 0 0))) ∧
    (t.ctl.mode = .run → 1 ≤ group → group ≤ 4 → state = 0 → (t.doorGroup group).isOpen = true →
      (∃ u, exec i s = .next u ∧ Answers t u i .done (.door group false 0 0) ∧ u.RequestsFormed ∧ u.ctl = t.ctl ∧
        u.settings = t.settings ∧ u.doors = closed.doors ∧ u.zones = closed.zones ∧ u.alloc = closed.alloc ∧
        u.line = t.line ∧ u.sel = t.sel ∧ u.store = t.store ∧
        ∀ c, (t.channel c).defined = true →
          (u.channel c).prompt = ((t.channel c).prompt &&
            !(List.range 4).any (fun e => names (t.promptEntry e) &&
              decide ((t.promptEntry e).defn.map PromptDef.runOn = some 0 ∧
                (t.promptEntry e).defn.map PromptDef.channel = some c)))) ∧
      (∃ u, exec i s = .next u ∧ u.RequestsAnswered ∧ ∀ c, (u.channel c).active = true → (t.channel c).active = true) ∧
      (t.Settled → (∀ e, e < 4 → names (t.promptEntry e) = true → (t.promptEntry e).defn.map PromptDef.runOn ≠ some 0) →
        exec i s = .next (closed.answered i .done (.door group false 0 0))) ∧
      (∀ e c, e < 4 → (t.promptEntry e).defn = some ⟨c, group, 0⟩ → t.Settled →
        (∀ k, k < 4 → k ≠ e → names (t.promptEntry k) = true → (t.promptEntry k).defn.map PromptDef.runOn ≠ some 0) →
        t.Alone c → (t.channel c).defined = true → (t.channel c).defn.prerequisite = none →
        let x := t.channel c
        let asks := x.own = true ∨ x.drawn = true
        let ended := { x with prompt := false, combined := false }
        let u :=
          if asks ∨ x.combined = false then closed.withChannel c { x with prompt := false }
          else if x.state = .running ∧ x.minOnExpired = true then closed.outOfService c ended.afterRelease
          else closed.withChannel c { ended with state := if x.state = .waiting then .idle else x.state }
        exec i s = .next (u.answered i .done (.door group false 0 0))))

/-- A door opening (R105): the group OPEN with its limit timer started and its NORMAL zones in DOOR-HOLD (neither at a limit of 0),
its entries' run-on timers stopped, their channels' prompt requests true and the combined requests formed again, IDLE channels that now
request WAITING. Then each entry's channel is offered a prompt grant in entry-number order, each tested against what the one before
has left (R112, R113; the ceiling test, log 47), and the reply counts the grants and the channels not granted. -/
def Obligations.DoorOpeningHoldsAndPrompts : Prop :=
  ∀ (tag group : Nat) (s : State), s.Ready → s.atTaking.ctl.mode = .run → 1 ≤ group → group ≤ 4 →
    (s.doorGroup group).isOpen = false →
    let i := Instr.door tag group 1
    let t := s.atTaking
    let named := fun (c : Nat) => (List.range 4).any (fun e =>
      decide ((t.promptEntry e).defn.map PromptDef.doorGroup = some group) &&
      decide ((t.promptEntry e).defn.map PromptDef.channel = some c))
    ∃ u granted refused, exec i s = .next u ∧ Answers t u i .done (.door group true granted refused) ∧
      granted + refused ≤ (t.alloc.prompts.rows.filter
        (fun e => decide (e.defn.map PromptDef.doorGroup = some group))).length ∧
      u.ctl = t.ctl ∧ u.settings = t.settings ∧ u.line = t.line ∧ u.sel = t.sel ∧ u.store = t.store ∧
      u.doors = t.doors.set1 group
        { isOpen := true, limitTimer := startedAt t.settings.doorHoldLimit, limitExpired := false } ∧
      u.zones = t.zones.map (fun z =>
        if 0 < t.settings.doorHoldLimit ∧ z.defined = true ∧ z.defn.doorGroup = some group ∧ z.hold = .normal then
          { z with hold := .doorHold }
        else z) ∧
      u.alloc = { t.alloc with
        groups := u.alloc.groups
        prompts := t.alloc.prompts.map (fun e =>
          if e.defn.map PromptDef.doorGroup = some group then { e with runOnTimer := none } else e) } ∧
      (∀ g, (u.group g).defn = (t.group g).defn ∧ (u.group g).credit ≤ (t.group g).credit) ∧ u.RequestsFormed ∧
      (∀ c, (t.channel c).defined = true → (u.channel c).prompt = ((t.channel c).prompt || named c)) ∧
      (∀ c, named c = false → (u.channel c).active = true → (t.channel c).active = true) ∧
      (t.Settled → (∀ c, named c = true → (t.channel c).sense = true → (t.channel c).exercise = false) →
        ∃ o : State,
          o = { t with
            doors := u.doors, zones := u.zones, alloc := { u.alloc with groups := t.alloc.groups }
            chan := { t.chan with channels := o.chan.channels } } ∧
          o.RequestsFormed ∧
          (∀ c, o.channel c =
            { t.channel c with
              prompt := (t.channel c).prompt || ((t.channel c).defined && named c)
              drawn := (o.channel c).drawn, combined := (o.channel c).combined
              state := match (t.channel c).state with
                | .idle => (o.channel c).asRequested
                | .waiting => (o.channel c).asRequested
                | other => other }) ∧
          let r := ((List.range 4).filterMap (fun e =>
            match (t.promptEntry e).defn with
            | none => none
            | some d => if d.doorGroup = group then some d.channel else none)).foldl State.promptOffered (o, 0, 0)
          u = r.1.answered i .done (.door group true r.2.1 r.2.2))

/-- The prompt grant of one prompt channel, the opening's only one, that waits or that the opening itself makes wait (R112, R113):
granted where it is eligible and passes the ceiling (log 47), the group peak and the credit floor, its surge charged to the credit;
otherwise not granted, with the refusal the first failing of credit floor and group peak counts. An ASSERTED fault-sense input faults the
channel at its grant (R41, R47). -/
def Obligations.PromptGrantNeedsEveryTest : Prop :=
  ∀ (tag group e c : Nat) (d : PromptDef) (s : State), s.Ready → s.atTaking.ctl.mode = .run → 1 ≤ group → group ≤ 4 →
    (s.doorGroup group).isOpen = false → s.atTaking.Settled →
    e < 4 → (s.promptEntry e).defn = some d → d.doorGroup = group → d.channel = c →
    (∀ k, k < 4 → k ≠ e → (s.promptEntry k).defn.map PromptDef.doorGroup ≠ some group) →
    (s.channel c).defined = true →
    (s.channel c).state = .waiting ∨
      ((s.channel c).state = .idle ∧ (s.channel c).inhibit = false ∧ (s.channel c).defn.prerequisite = none) →
    ((s.channel c).sense = true → (s.channel c).exercise = false) →
    let i := Instr.door tag group 1
    let t := s.atTaking
    let x := t.channel c
    let g := x.defn.group
    let opened : State :=
      { t with
        doors := t.doors.set1 group
          { isOpen := true, limitTimer := startedAt t.settings.doorHoldLimit, limitExpired := false }
        zones := t.zones.map (fun z =>
          if 0 < t.settings.doorHoldLimit ∧ z.defined = true ∧ z.defn.doorGroup = some group ∧ z.hold = .normal then
            { z with hold := .doorHold }
          else z)
        alloc := { t.alloc with prompts := t.alloc.prompts.map (fun y =>
          if y.defn.map PromptDef.doorGroup = some group then { y with runOnTimer := none } else y) }
        chan := { t.chan with
          channels := t.chan.channels.set c { x with prompt := true, combined := true, state := .waiting } } }
    let eligible := x.defn.priority < t.alloc.threshold ∧
      ∀ q, x.defn.prerequisite = some q → (t.channel q).defined = true ∧ (t.channel q).state = .running
    let ceiling := t.over Channel.draws + x.defn.surge ≤ t.alloc.ceiling
    let peak := t.load g + x.defn.startingFigure ≤ (t.group g).defn.peak
    let floor := -(((t.group g).defn.peak * (t.group g).defn.burst : Nat) : Int) ≤ (t.group g).credit - x.defn.surge
    (eligible → ceiling → peak → floor →
      exec i s = .next (State.answered
        ((opened.withGroup g { t.group g with credit := (t.group g).credit - x.defn.surge }).startedSensing c)
        i .done (.door group true 1 0))) ∧
    (eligible → ¬ floor →
      exec i s = .next (State.answered
        (opened.creditRefused g)
        i .done (.door group true 0 1))) ∧
    (eligible → floor → ¬ peak →
      exec i s = .next (State.answered
        (opened.peakRefused g)
        i .done (.door group true 0 1))) ∧
    (¬ eligible ∨ (floor ∧ peak ∧ ¬ ceiling) → exec i s = .next (opened.answered i .done (.door group true 0 1)))

/-- CLEAR-FAULT (R50): in RUN alone; the fault count becomes 0, and a LATCHED channel enters WAITING or IDLE by its combined
request. SWEEP-NOW (R130): in RUN alone; BUSY while a sweep is in flight, and otherwise an on-request sweep starts and the reply
waits for its completion. -/
def Obligations.ClearFaultAndSweepNow : Prop :=
  ∀ (tag channel : Nat) (s : State), s.Ready →
    let i := Instr.clearFault tag channel
    let j := Instr.sweepNow tag
    let t := s.atTaking
    let x := t.channel channel
    exec i s = .next
      (if t.ctl.mode ≠ .run then t.refusesMode i
       else if 31 < channel then t.answered i .badField (.field 1)
       else if x.defined = false then t.answered i .noSuchItem .nothing
       else (t.withChannel channel
           { x with faults := 0, state := if x.state = .latched then x.asRequested else x.state }).answered i .done .nothing) ∧
    (t.ctl.mode ≠ .run → exec j s = .next (t.refusesMode j)) ∧
    (t.ctl.mode = .run → t.line.inFlight ≠ none → exec j s = .next (t.answered j .busy .nothing)) ∧
    (t.ctl.mode = .run → t.line.inFlight = none → exec j s = .next ((t.sweepBegun .onRequest (some tag)).awaiting j))

/-! ## Mode requests and SAVE -/

/-- START (R167, R168): in STANDBY a working configuration that passes enters RUN and is answered DONE; one that fails is answered
CONFIG-FAULT with the first failing record and the reason of its first failing test, and changes the last validation alone; an empty
configuration is NO-ZONE, one without channels NO-CHANNEL. WRONG-MODE in RUN, BUSY in WIND-DOWN. A demand update that still waits at the
entry to RUN is kept (the model's choice, log 24). -/
def Obligations.StartValidates : Prop :=
  ∀ (tag : Nat) (s : State), s.Ready →
    let i := Instr.start tag
    let t := s.atTaking
    (t.ctl.mode = .run → exec i s = .next (t.refusesMode i)) ∧
    (t.ctl.mode = .windDown → exec i s = .next (t.answered i .busy .nothing)) ∧
    (t.ctl.mode = .standby → t.Quiet → t.Valid →
      ∃ u, exec i s = .next u ∧ Answers t u i .done .nothing ∧ EntersRun t u) ∧
    (t.ctl.mode = .standby → ¬ t.Valid → ∃ f,
      exec i s = .next (State.answered { t with ctl := { t.ctl with lastValidation := .failed f } } i .configFault
        (.configFault f)) ∧ t.FirstFailure f)

/-- STOP (R172 to R174): in RUN ACCEPTED with the number of channels left drawing, and the part is in WIND-DOWN, or in STANDBY with
WIND-DOWN-DONE where that number is 0: demands, integrals and holds cleared, doors closed, the four timers stopped, every combined
and prompt request false, WAITING channels IDLE, STARTING and RUNNING channels released. In STANDBY and WIND-DOWN it is DONE and
changes nothing. -/
def Obligations.StopWindsDown : Prop :=
  ∀ (tag : Nat) (s : State), s.Ready →
    let i := Instr.stop tag
    let t := s.atTaking
    (t.ctl.mode ≠ .run → exec i s = .next (t.answered i .done .nothing)) ∧
    (t.ctl.mode = .run → ∃ u n, exec i s = .next u ∧ Answers t u i .accepted (.stopping n) ∧
      n = u.over (fun x => if x.defined = true ∧ x.state.drawing = true then 1 else 0) ∧
      u.ctl = { t.ctl with mode := if n = 0 then .standby else .windDown } ∧
      u.settings = t.settings ∧ u.sel = t.sel ∧ u.store = t.store ∧ u.link.silenceTimer = none ∧
      (∀ k, u.zone k =
        if (t.zone k).defined = true then
          { t.zone k with
            integral := 0, demand := 0, hold := .normal, holdTimer := none
            effectiveSetpoint := if n = 0 then (t.zone k).commandedSetpoint else (t.zone k).effectiveSetpoint
            effectiveMode := if n = 0 then (t.zone k).commandedMode else (t.zone k).effectiveMode }
        else t.zone k) ∧
      u.doors = Table.fill 4 { isOpen := false, limitTimer := none, limitExpired := false } ∧
      u.alloc = { t.alloc with
        slotTimer := none, stalenessTimer := none, prompts := t.alloc.prompts.map (fun e => { e with runOnTimer := none }) } ∧
      (n ≠ 0 → u.line = t.line) ∧ (s.GrantOrderExact → u.chan.grantOrder = []) ∧
      (∀ c, (t.channel c).defined = true →
        let x := { t.channel c with combined := false, drawn := false, prompt := false }
        u.channel c =
          if x.active = true then { x.afterRelease with exercise := false }
          else if x.state = .waiting then { x with state := .idle }
          else x) ∧
      ((∀ c, (t.channel c).active = true → (t.channel c).exercise = false) → t.link.notices.length < 16 →
        u.link.notices = t.link.notices ++
          (if n = 0 then
            [.windDownDone (u.over (fun x => if x.defined = true ∧ x.state = .lockout then 1 else 0))
              (u.over (fun x => if x.defined = true ∧ x.state = .faulted then 1 else 0))
              (u.over (fun x => if x.defined = true ∧ x.state = .latched then 1 else 0))]
           else [])))

/-- RESTART (R175 step 1): taken in every mode and answered DONE; its effects follow the reply's last character
(ReplySentEndsTheRequest). SAVE (R194): WRONG-MODE in WIND-DOWN; otherwise a snapshot is made, and the configuration area's write
begins, its checksum bad, unless a write is in flight; the reply waits. -/
def Obligations.RestartAndSaveAreTaken : Prop :=
  ∀ (tag : Nat) (s : State), s.Ready →
    let t := s.atTaking
    let op : SaveOp := ⟨tag, t.asStored, t.hours⟩
    exec (.restart tag) s = .next (t.answered (.restart tag) .done .nothing) ∧
    (t.ctl.mode = .windDown → exec (.save tag) s = .next (t.refusesMode (.save tag))) ∧
    (t.ctl.mode ≠ .windDown → t.store.write = .idle →
      exec (.save tag) s = .next (State.awaiting
        { t with store := { t.store with save := some op, write := .configuration, configArea := none } } (.save tag))) ∧
    (t.ctl.mode ≠ .windDown → t.store.write ≠ .idle →
      exec (.save tag) s = .next (State.awaiting { t with store := { t.store with save := some op } } (.save tag)))

/-! ## Queries -/

/-- STATUS (R188): answered in every mode with what its blocks hold, this request counted in the request queue; the fallback flag
and the notices-lost flag are then cleared, and nothing else changes. The model's choice: times that count up, the fallback time and
the run seconds, are rounded down (log 26), and a stopped run timer is reported at the time it holds (log 42). READ-CONFIG (R189): a
record kind outside the table is BAD-FIELD 1, an index outside its kind's range BAD-FIELD 2, an undefined record NO-SUCH-ITEM, and any
other record is answered with its definition part. ROTA-READ (R84): a start position above 63 is field 1; a count outside 1..48, or a
sum above 64 (log 28), is field 2; otherwise the length, the position, the first-slot flag and the run of entries, EMPTY from the
length on. -/
def Obligations.StatusAndConfigurationAreRead : Prop :=
  (∀ (tag : Nat) (s : State), s.Ready →
    let i := Instr.status tag
    let t := s.atTaking
    exec i s = .next (State.answered
      { t with ctl := { t.ctl with fallbackFlag := false }, link := { t.link with noticesLost := false } } i .done
      (.status (t.statusGathered 1)))) ∧
  (∀ (tag kind index start count : Nat) (s : State), s.Ready →
      let i := Instr.readConfig tag kind index
      let j := Instr.rotaRead tag start count
      let t := s.atTaking
      let within := fun (inRange : Bool) (record : Option ConfigRecord) =>
        if inRange = true then
          match record with
          | some r => t.answered i .done (.config r)
          | none => t.answered i .noSuchItem .nothing
        else t.answered i .badField (.field 2)
      let defined := fun (b : Bool) (r : ConfigRecord) => if b = true then some r else none
      exec i s = .next
        (if kind = 0x01 then within (decide (index = 0)) (some (.settings t.settings))
         else if kind = 0x02 then
           within (decide (1 ≤ index ∧ index ≤ 12)) (defined (t.zone index).defined (.zone index (t.zone index).defn))
         else if kind = 0x03 then
           within (decide (index ≤ 31)) (defined (t.channel index).defined (.channel index (t.channel index).defn))
         else if kind = 0x04 then within (decide (index ≤ 7)) (some (.group index (t.group index).defn))
         else if kind = 0x06 then
           within (decide (index ≤ 3)) ((t.promptEntry index).defn.map (fun d => .prompt index d))
         else if kind = 0x07 then
           within (decide (index ≤ 15)) (defined (t.station index).defined (.station index (t.station index).defn))
         else if kind = 0x08 then
           within (decide (1 ≤ index ∧ index ≤ 13))
             (defined (t.input index).defn.primary.isSome (.input index (t.input index).defn))
         else if kind = 0x09 then within (decide (index = 0)) (some (.pool t.sel.pool))
         else t.answered i .badField (.field 1)) ∧
      exec j s = .next
        (if 63 < start then t.answered j .badField (.field 1)
         else if count < 1 ∨ 48 < count ∨ 64 < start + count then t.answered j .badField (.field 2)
         else t.answered j .done (.rota t.alloc.rotaLength t.alloc.rotaPosition t.alloc.firstSlot
           ((List.range count).map (fun k =>
             if start + k < t.alloc.rotaLength then t.alloc.rota.get none (start + k) else none)))))

/-- ALLOC-REPORT and GROUP-REPORT (R86, R101): the allocator's state and figures over the channel table as they stand. ZONE-REPORT,
CHANNEL-REPORT, INPUT-REPORT and STATION-REPORT (R25, R56, R156, R135): a defined record is answered with its fields as they stand,
timers in whole seconds rounded up, with the selector's lists and the sweep figures. A number out of range is BAD-FIELD, and an
undefined record NO-SUCH-ITEM. -/
def Obligations.ReportsAnswerTheState : Prop :=
  (∀ (tag group : Nat) (s : State), s.Ready →
      let i := Instr.allocReport tag
      let j := Instr.groupReport tag group
      let t := s.atTaking
      let count := fun (st : ChannelState) => t.over (fun x => if x.defined = true ∧ x.state = st then 1 else 0)
      let member := fun (x : Channel) => decide (x.defined = true ∧ x.defn.group = group)
      let members := fun (st : ChannelState) => t.over (fun x => if member x = true ∧ x.state = st then 1 else 0)
      let g := t.group group
      exec i s = .next (t.answered i .done (.alloc
        { ceiling := t.alloc.ceiling, threshold := t.alloc.threshold, source := t.alloc.source
          supplyStale := t.ctl.supplyStale, stalenessSeconds := wholeSeconds t.alloc.stalenessTimer
          preemptionWidth := t.settings.preemptionWidth, total := t.over Channel.draws, waiting := count .waiting
          starting := count .starting, running := count .running, stopping := count .stopping
          rotaLength := t.alloc.rotaLength, rotaPosition := t.alloc.rotaPosition, cursors := t.alloc.cursors.rows
          displacementRefused := t.alloc.displacementRefused, grants := t.alloc.lastGrants
          releases := t.alloc.lastReleases, displacements := t.alloc.lastDisplacements })) ∧
      exec j s = .next
        (if 7 < group then t.answered j .badField (.field 1)
         else t.answered j .done (.group
           { group := group, peak := g.defn.peak, divisor := g.defn.divisor, burst := g.defn.burst
             refill := g.defn.peak / g.defn.divisor, capacity := g.defn.peak * g.defn.burst, credit := g.credit
             load := t.over (fun x => if member x = true ∧ x.state.inService = true then x.draws else 0)
             starting := members .starting, running := members .running, stopping := members .stopping
             creditRefusals := g.creditRefusals, peakRefusals := g.peakRefusals }))) ∧
  (∀ (tag zone channel input station : Nat) (s : State), s.Ready →
      let i := Instr.zoneReport tag zone
      let j := Instr.channelReport tag channel
      let t := s.atTaking
      let z := t.zone zone
      let x := t.channel channel
      let k := Instr.inputReport tag input
      let l := Instr.stationReport tag station
      let p := t.input input
      let y := t.station station
      exec i s = .next
        (if zone < 1 ∨ 12 < zone then t.answered i .badField (.field 1)
         else if z.defined = false then t.answered i .noSuchItem .nothing
         else t.answered i .done (.zone
           { zone := zone, commandedSetpoint := z.commandedSetpoint, commandedMode := z.commandedMode
             effectiveSetpoint := z.effectiveSetpoint, effectiveMode := z.effectiveMode, nudge := z.nudge
             inputValue := z.inputValue, integral := z.integral, demand := z.demand, hold := z.hold
             holdSeconds := wholeSeconds z.holdTimer })) ∧
      exec j s = .next
        (if 31 < channel then t.answered j .badField (.field 1)
         else if x.defined = false then t.answered j .noSuchItem .nothing
         else t.answered j .done (.channel
           { channel := channel, state := x.state, timerSeconds := wholeSeconds x.timer, minOnExpired := x.minOnExpired
             own := x.own, drawn := x.drawn, prompt := x.prompt, exercise := x.exercise, combined := x.combined
             inhibit := x.inhibit, ambientStatus := t.chan.ambientStatus, ambientValue := t.chan.ambientValue
             driving := x.driving, target := x.target, applied := x.applied
             level :=
               if x.state ≠ .running then .none
               else if x.defn.kind = .pwm ∧ x.applied < x.target then .levelLimited else .full
             counted := x.draws, faults := x.faults, sense := x.sense
             position := t.chan.grantOrder.findIdx? (fun d => decide (d = channel)) })) ∧
      exec k s = .next
        (if input < 1 ∨ 13 < input then t.answered k .badField (.field 1)
         else if p.defn.primary = none then t.answered k .noSuchItem .nothing
         else t.answered k .done (.input
           { input := input, evaluated := decide (input = 13) || (t.zone input).defined, primary := p.defn.primary
             alternates := p.defn.alternates, state := p.state, source := p.source
             sourcePoint := match p.source with
               | .primary => p.defn.primary
               | .alternate1 => p.defn.alternates[0]?
               | .alternate2 => p.defn.alternates[1]?
               | .pool n => t.sel.pool[n]?
               | .none => none
             value := p.value, holding := p.holding, seenGood := p.seenGood, badCount := p.badCount
             verifyCount := p.verifyCount, position := t.sel.candidates.findIdx? (fun c => decide (c = input))
             candidates := t.sel.candidates, poolLength := t.sel.pool.length, freeList := t.sel.freeList
             lentTo := (List.range t.sel.pool.length).map (fun n =>
               (List.range 14).find? (fun q => decide ((t.input q).source = .pool n))) })) ∧
      exec l s = .next
        (if 15 < station then t.answered l .badField (.field 1)
         else if y.defined = false then t.answered l .noSuchItem .nothing
         else t.answered l .done (.station
           { station := station, address := y.defn.address, enabled := y.defn.enabled, present := y.present
             missCount := y.missCount, writePending := y.writePending, changedInFlight := y.changedInFlight
             lastRead := y.lastRead, lastWrite := y.lastWrite, writeFailures := y.writeFailures, points := y.points
             inFlight := t.line.inFlight.map Sweep.kind, overruns := t.line.overruns, lastSweep := t.line.lastSweep })))

/-- A request of unknown kind is answered UNKNOWN-KIND whatever its body, and a body of the wrong length MALFORMED, kind first; neither
touches any block, but that it ends FALLBACK as every frame does, with the supply staleness timer at 5 s (R185, R183, R179). The lengths
are those of section 11.5. -/
def Obligations.UnknownAndMalformedAreRefused : Prop :=
  ∀ (tag kind : Nat) (k g : Byte) (body : List Byte) (s : State), s.Ready →
    let i := Instr.unknownKind tag kind
    let c := crc (BitVec.ofNat 8 (body.length + 2) :: k :: g :: body)
    let refused := fun (code : ResultCode) =>
      ∃ u, exec (.frameComplete k g body c) s = .next u ∧ u.link.requests = [⟨k.toNat, g.toNat, body⟩] ∧
        u.ctl = { s.ctl with mode := if s.ctl.mode = .fallback then .run else s.ctl.mode } ∧
        u.zones = s.zones ∧ u.doors = s.doors ∧ u.chan = s.chan ∧ u.line = s.line ∧ u.sel = s.sel ∧
        u.store = s.store ∧ u.settings = s.settings ∧ u.sensePins = s.sensePins ∧
        u.alloc = { s.alloc with
          stalenessTimer := if s.ctl.mode = .fallback then some 5000 else s.alloc.stalenessTimer } ∧
        (s.link.tx = .idle → u.link.tx = .reply ⟨k.toNat, g.toNat, code, .nothing⟩) ∧
        (s.link.tx ≠ .idle → u.link.ready = some ⟨k.toNat, g.toNat, code, .nothing⟩)
    exec i s = .next (s.atTaking.answered i .unknownKind .nothing) ∧
    (body.length ≤ 56 → requestKinds.contains k.toNat = false → refused .unknownKind) ∧
    (body.length ≤ 56 → requestKinds.contains k.toNat = true → wrongLength k.toNat body = true → refused .malformed)

/-! ## The station line -/

/-- The sweep timer (R121): at its expiry a periodic sweep starts, or an overrun is counted where one is in flight, and it runs
again for 1 s. An attempt (R116, R117): a first attempt that is not good is made again, and the outcome of a poll that a
STATION-DEF has disowned is not acted on (R131). With no poll outstanding these events change nothing (log 5). -/
def Obligations.SweepStartsAndPollsRepeat : Prop :=
  ∀ (s : State) (reply : List Byte), s.phase = .operating →
    (s.line.sweepTimer = none → exec .sweepTimerExpiry s = .next s.pump) ∧
    (s.line.sweepTimer ≠ none → s.line.inFlight = none → exec .sweepTimerExpiry s = .next
      (State.pump (State.sweepBegun { s with line := { s.line with sweepTimer := some 1000 } } .periodic none))) ∧
    (s.line.sweepTimer ≠ none → s.line.inFlight ≠ none → exec .sweepTimerExpiry s = .next
      (State.pump { s with line := { s.line with
        sweepTimer := some 1000, overruns := if s.line.overruns < 65535 then s.line.overruns + 1 else 65535 } })) ∧
    ((∀ w, s.line.inFlight = some w → w.poll = none) →
      exec .pollReplyWindowExpiry s = .next s.pump ∧ exec (.pollReplyGapExpiry reply) s = .next s.pump ∧
      exec (.pollReplyEnd reply) s = .next s.pump) ∧
    (∀ w p, s.line.inFlight = some w → w.poll = some p → p.address ≤ 30 →
      let again : State := s.withSweep (some { w with poll := some { p with second := true, window := 20 } })
      let passed : State := s.sweepOn { w with poll := none }
      (p.second = false →
        exec .pollReplyWindowExpiry s = .next again.pump ∧
        (¬ p.Answered reply → exec (.pollReplyGapExpiry reply) s = .next again.pump ∧
          exec (.pollReplyEnd reply) s = .next again.pump)) ∧
      (p.disowned = true →
        (p.second = true → exec .pollReplyWindowExpiry s = .next passed.pump) ∧
        (p.second = true ∨ p.Answered reply → exec (.pollReplyGapExpiry reply) s = .next passed.pump ∧
          exec (.pollReplyEnd reply) s = .next passed.pump)))

/-- A read poll's outcome (R123 to R126). REPLIED: the station PRESENT with miss count 0, every point judged against its kind, and
a write poll with the panel zone's effective values made where one is due. NO-REPLY and CHECK-FAIL at the second attempt: the miss
count raised, ABSENT at 3, every point MISSING, no write. The sweep then takes its next step. -/
def Obligations.ReadPollsBringTheSamples : Prop :=
  ∀ (s : State) (w : Sweep) (p : Poll), s.phase = .operating → s.line.inFlight = some w → w.poll = some p →
    p.kind = .read → p.disowned = false → p.address ≤ 30 →
    let x := s.station p.station
    let up := fun (n : Nat) => if n < 255 then n + 1 else 255
    let failed := fun (outcome : PollOutcome) =>
      (s.withStation p.station
        { x with
          missCount := up x.missCount, present := x.present && decide (up x.missCount < 3), lastRead := outcome
          points := x.points.map (fun y =>
            { y with quality := .missing, badCount := up y.badCount, goodCount := 0 }) }).sweepOn { w with poll := none }
    (∀ values reply, reply = readReply p.address values → p.points ≤ values.length → values.length < 256 →
      x.points.length ≤ values.length → (∀ v ∈ values, -32768 ≤ v ∧ v ≤ 32767) →
      let t := s.withStation p.station
        { x with missCount := 0, present := true, lastRead := .replied
                 points := (x.points.zip values).map (fun e => e.1.judged e.2) }
      let v := { w with poll := none, figures := { w.figures with replied := w.figures.replied + 1 } }
      let next : State :=
        match x.defn.panelZone with
        | none => t.sweepOn v
        | some z =>
          if (s.zone z).defined = true ∧
              (x.defn.policy = .everySweep ∨ (x.defn.policy = .onChange ∧ x.writePending = true)) then
            t.withSweep (some
              { v with
                poll := some { station := p.station, address := x.defn.address, points := 0, second := false, window := 20
                               kind := .write (s.zone z).effectiveSetpoint (s.zone z).effectiveMode, disowned := false }
                figures := { v.figures with writes := v.figures.writes + 1 } })
          else t.sweepOn v
      exec (.pollReplyEnd reply) s = .next next.pump ∧ exec (.pollReplyGapExpiry reply) s = .next next.pump) ∧
    (p.second = true → exec .pollReplyWindowExpiry s = .next (failed .noReply).pump ∧
      ∀ reply, ¬ p.Answered reply →
        exec (.pollReplyEnd reply) s = .next (failed .checkFail).pump ∧
        exec (.pollReplyGapExpiry reply) s = .next (failed .checkFail).pump)

/-- A write poll's outcome (R127, R128). REPLIED: write-pending cleared unless the zone changed in flight. NO-REPLY and CHECK-FAIL at
the second attempt: the write failures raised, write-pending kept. Either way changed-in-flight is cleared, presence, miss count and
points stay, and the sweep takes its next step. -/
def Obligations.WritePollsClearTheFlag : Prop :=
  ∀ (s : State) (w : Sweep) (p : Poll) (setpoint : Int) (mode : ZoneMode), s.phase = .operating →
    s.line.inFlight = some w → w.poll = some p → p.kind = .write setpoint mode → p.disowned = false → p.address ≤ 30 →
    let x := s.station p.station
    let failed := fun (outcome : PollOutcome) =>
      (s.withStation p.station
        { x with lastWrite := outcome, changedInFlight := false
                 writeFailures := if x.writeFailures < 65535 then x.writeFailures + 1 else 65535 }).sweepOn
        { w with poll := none }
    let replied : State :=
      (s.withStation p.station
        { x with lastWrite := .replied, changedInFlight := false
                 writePending := x.writePending && x.changedInFlight }).sweepOn
        { w with poll := none, figures := { w.figures with writesReplied := w.figures.writesReplied + 1 } }
    (exec (.pollReplyEnd (writeAck p.address)) s = .next replied.pump ∧
      exec (.pollReplyGapExpiry (writeAck p.address)) s = .next replied.pump) ∧
    (p.second = true → exec .pollReplyWindowExpiry s = .next (failed .noReply).pump ∧
      ∀ reply, reply ≠ writeAck p.address →
        exec (.pollReplyEnd reply) s = .next (failed .checkFail).pump ∧
        exec (.pollReplyGapExpiry reply) s = .next (failed .checkFail).pump)

/-! ## A sweep's completion -/

/-- The input selector's three passes (R143 to R151) as one closed form, `inputSwept`: reinstatement at the 30th good count, failover at
the fifth bad sweep, a failed substitute and an INVALID input reselected, each by its first good alternate or, in input-number order, the
lowest good free pool point, or INVALID; the values, the candidate list and the free list that follow, and every notice in order. The
completion is handed on with the inputs as the passes left them (R152). With no completion waiting it changes nothing (log 5). -/
def Obligations.SelectorFailsOverAndReinstates : Prop :=
  ∀ s : State, s.phase = .operating →
    ((∀ w, s.line.inFlight = some w → w.stage ≠ .selector) → exec .selectorSweepCompletion s = .next s.pump) ∧
    ∀ w, s.line.inFlight = some w → w.stage = .selector → s.PoolLent →
      exec .selectorSweepCompletion s = .next (State.pump (s.sweepNotices.foldl State.withNotice
        { s with
          line := { s.line with inFlight := some { w with stage := .handedOn false false } }
          sel := { s.sel with
            inputs := s.sel.inputs.mapIdx (fun k _ => s.inputSwept (k + 1))
            handed := s.sel.inputs.mapIdx (fun k _ => s.inputSwept (k + 1))
            freeList := (List.range s.sel.pool.length).filter (fun k =>
              theInputs.all (fun i => decide ((s.inputSwept i).source ≠ .pool k)))
            candidates :=
              s.sel.candidates.filter (fun i => !s.reinstates i) ++
              theInputs.filter (fun i => decide ((s.input i).state = .onPrimary) && s.reselects i) } }))

/-- The zone controller's completion, on the inputs as they were handed on (R152): in RUN and FALLBACK the input side of the hold states
(R16), and at a periodic completion the computation event (R8), its demands handed over behind those not yet taken (R14; the list of
updates is the model's, log 24) and new effective values reported (R7); in STANDBY and WIND-DOWN nothing (in WIND-DOWN the model's choice,
log 46). The completion is then taken (R129). With none waiting it changes nothing (log 5). -/
def Obligations.ZoneCompletionComputes : Prop :=
  ∀ s : State, s.phase = .operating →
    ((∀ w a, s.line.inFlight = some w → w.stage ≠ .handedOn false a) → exec .zoneSweepCompletion s = .next s.pump) ∧
    ∀ w a, s.line.inFlight = some w → w.stage = .handedOn false a →
      let acts := s.ctl.mode = .run ∨ s.ctl.mode = .fallback
      let held : State :=
        { s with zones := s.zones.mapIdx (fun k z => if z.defined then s.zoneHeld (k + 1) z else z) }
      let computed := held.zones.mapIdx (fun k z => if z.defined then s.zoneComputed (k + 1) z else z)
      let t := held.zonesReplaced computed
      let handed : State :=
        { t with chan := { t.chan with updates := t.chan.updates ++
            [computed.map (fun z => if z.defined then ⟨z.demand, z.effectiveMode⟩ else ⟨0, .off⟩)] } }
      (¬ acts → exec .zoneSweepCompletion s = .next (s.sweepTaken w true a).pump) ∧
      (acts → w.kind = .onRequest → exec .zoneSweepCompletion s = .next (held.sweepTaken w true a).pump) ∧
      (acts → w.kind = .periodic → exec .zoneSweepCompletion s = .next (handed.sweepTaken w true a).pump)

/-- The channel controller's completion: the ambient value, status and hold timer from OUT as it was handed on (R37, R152), every inhibit
evaluated (R38; what a first evaluation is, log 21), the requests formed again (R32), and every inhibited channel out of service (R39).
Where no inhibit changes nothing else does; where one channel that stands alone becomes inhibited, that channel is released. -/
def Obligations.AmbientCompletionInhibits : Prop :=
  ∀ s : State, s.phase = .operating →
    ((∀ w z, s.line.inFlight = some w → w.stage ≠ .handedOn z false) → exec .ambientSweepCompletion s = .next s.pump) ∧
    ∀ w z, s.line.inFlight = some w → w.stage = .handedOn z false →
      let out := s.handedInput 13
      let old := s.chan.ambientStatus
      let value := if out.lost then s.chan.ambientValue else out.value
      let status : AmbientStatus := if out.lost then (if old = .valid then .held else old) else .valid
      let timer := if out.lost then (if old = .valid then some 600000 else s.chan.ambientTimer) else none
      let judged := fun (x : Channel) => x.defn.inhibited status value (decide (old = .expired) || x.fresh) x.inhibit
      let b : State :=
        { s with chan := { s.chan with
            ambientValue := value, ambientStatus := status, ambientTimer := timer
            channels := s.chan.channels.map (fun x =>
              if x.defined then { x with inhibit := judged x, fresh := false } else x) } }
      (∃ u, exec .ambientSweepCompletion s = .next u ∧ u.chan.ambientValue = value ∧ u.chan.ambientStatus = status ∧
        u.chan.ambientTimer = timer ∧ u.ctl = s.ctl ∧ u.settings = s.settings ∧ u.zones = s.zones ∧ u.doors = s.doors ∧
        u.alloc = s.alloc ∧ u.sel = s.sel ∧ u.store = s.store ∧ u.line = (s.sweepTaken w z true).line ∧
        u.RequestsFormed ∧ u.RequestsAnswered ∧
        ∀ c, (s.channel c).defined = true →
          (u.channel c).inhibit = judged (s.channel c) ∧ ((u.channel c).active = true → (u.channel c).inhibit = false)) ∧
      (s.Settled → (∀ c, (s.channel c).active = true → (s.channel c).inhibit = false) →
        (∀ c, (b.channel c).inhibit = (s.channel c).inhibit) →
        exec .ambientSweepCompletion s = .next (b.sweepTaken w z true).pump) ∧
      (∀ c, s.Settled → s.Alone c → (s.channel c).active = true → (s.channel c).defn.prerequisite = none →
        (∀ d, d ≠ c → (s.channel d).active = true → (s.channel d).inhibit = false) →
        (∀ d, d ≠ c → (b.channel d).inhibit = (s.channel d).inhibit) →
        (s.channel c).inhibit = false → (b.channel c).inhibit = true →
        exec .ambientSweepCompletion s = .next (State.pump (State.sweepTaken
          (b.outOfService c (Channel.afterRelease { b.channel c with combined := false })) w z true)))

/-- A zone update taken (R29 to R34): every defined channel's driving value, own request with its hysteresis and PWM target, a fall
below the applied level of a RUNNING channel at once, and the requests formed again and answered. Updates are taken oldest first
(log 24). Where no own request changes, nothing else does. -/
def Obligations.DemandUpdateDrivesTheChannels : Prop :=
  ∀ s : State, s.phase = .operating →
    (s.chan.updates = [] → exec .zoneDemandUpdate s = .next s.pump) ∧
    ∀ d rest, s.chan.updates = d :: rest →
      let v := fun (x : Channel) => drivenBy d s.zones x.defn
      let own := fun (x : Channel) => if x.defn.tOn ≤ v x then true else if v x ≤ x.defn.tOff then false else x.own
      let applied := fun (x : Channel) =>
        if x.state = .running ∧ x.defn.aim (v x) < x.applied then x.defn.aim (v x) else x.applied
      (∃ u, exec .zoneDemandUpdate s = .next u ∧ u.chan.updates = rest ∧ u.RequestsFormed ∧ u.RequestsAnswered ∧
        u.ctl = s.ctl ∧ u.settings = s.settings ∧ u.zones = s.zones ∧ u.doors = s.doors ∧ u.alloc = s.alloc ∧
        u.line = s.line ∧ u.sel = s.sel ∧ u.store = s.store ∧
        ∀ c, (s.channel c).defined = true →
          (u.channel c).driving = v (s.channel c) ∧ (u.channel c).own = own (s.channel c) ∧
          (u.channel c).target = (s.channel c).defn.aim (v (s.channel c)) ∧
          ((u.channel c).active = true → (s.channel c).active = true ∧ (u.channel c).applied = applied (s.channel c))) ∧
      (s.Settled → (∀ c, (s.channel c).defined = true → own (s.channel c) = (s.channel c).own) →
        exec .zoneDemandUpdate s = .next (State.pump
          { s with chan := { s.chan with
              updates := rest
              channels := s.chan.channels.map (fun x =>
                if x.defined then
                  { x with driving := v x, target := x.defn.aim (v x), applied := applied x }
                else x) } }))

/-! ## Timers of zones, doors, prompts and the ambient hold -/

/-- A zone's hold timer takes INPUT-HOLD to INPUT-DECAY (R17); a group's limit timer sets its flag and returns its DOOR-HOLD zones to
NORMAL (R108); the ambient hold timer makes the status EXPIRED (R37); a run-on timer ends its channel's prompt request (R111), which
releases a RUNNING channel past its minimum on that asks for nothing else (R43). A stopped timer's event changes nothing (log 4). -/
def Obligations.HoldAndRunOnTimersExpire : Prop :=
  ∀ (s : State) (n g e : Nat), s.phase = .operating →
    let z := s.zone n
    let d := s.doorGroup g
    exec (.holdTimerExpiry n) s = .next (State.pump
      (if z.holdTimer ≠ none ∧ z.hold = .inputHold then s.withZone n { z with hold := .inputDecay, holdTimer := none } else s)) ∧
    exec (.doorLimitTimerExpiry g) s = .next (State.pump
      (if d.limitTimer = none then s
       else
        { s.withDoor g { d with limitTimer := none, limitExpired := true } with
          zones := s.zones.map (fun y =>
            if y.defn.doorGroup = some g ∧ y.hold = .doorHold then { y with hold := .normal } else y) })) ∧
    exec .ambientHoldTimerExpiry s = .next (State.pump
      (if s.chan.ambientTimer = none then s
       else { s with chan := { s.chan with ambientStatus := .expired, ambientTimer := none } })) ∧
    ((s.promptEntry e).defn = none ∨ (s.promptEntry e).runOnTimer = none → exec (.runOnTimerExpiry e) s = .next s.pump) ∧
    (∀ p, (s.promptEntry e).defn = some p → (s.promptEntry e).runOnTimer ≠ none →
      let c := p.channel
      let x := s.channel c
      let stopped := s.withPrompt e { defn := some p, runOnTimer := none }
      (∃ u, exec (.runOnTimerExpiry e) s = .next u ∧ u.RequestsFormed ∧ u.RequestsAnswered ∧ u.alloc = stopped.alloc ∧
        u.ctl = s.ctl ∧ u.zones = s.zones ∧ u.doors = s.doors ∧ u.line = s.line ∧ u.sel = s.sel ∧
        (x.defined = true → (u.channel c).prompt = false)) ∧
      (s.Settled → x.defined = true → x.own = true ∨ x.drawn = true ∨ x.exercise = true ∨ x.combined = false →
        exec (.runOnTimerExpiry e) s = .next (stopped.withChannel c { x with prompt := false }).pump) ∧
      (s.Settled → s.Alone c → x.defined = true → x.state = .running → x.minOnExpired = true → x.own = false →
        x.drawn = false → x.defn.prerequisite = none →
        exec (.runOnTimerExpiry e) s = .next (State.pump
          (stopped.outOfService c (Channel.afterRelease { x with prompt := false, combined := false })))))

/-! ## The channels' own events -/

/-- The start timer takes STARTING to RUNNING, its minimum on and clean run started (R42, R43, R160); at the minimum-on expiry the flag
is set. A channel that no longer requests is released at the one with a minimum on of 0 and at the other (R43, R44); a channel that
stands alone is released without a cascade (R51). A stopped timer's event changes nothing (log 4). -/
def Obligations.StartAndMinimumOnExpire : Prop :=
  ∀ (s : State) (c : Nat), s.phase = .operating →
    let x := s.channel c
    let running := s.intoRunning c x
    let starting := x.defined = true ∧ x.state = .starting ∧ x.timer ≠ none
    let timed := x.defined = true ∧ x.state = .running ∧ x.timer ≠ none
    (¬ starting → exec (.startTimerExpiry c) s = .next s.pump) ∧
    (starting → 0 < x.defn.minOn ∨ x.combined = true → exec (.startTimerExpiry c) s = .next running.pump) ∧
    (starting → x.defn.minOn = 0 → x.combined = false → s.Alone c →
      exec (.startTimerExpiry c) s = .next (running.outOfService c (running.channel c).afterRelease).pump) ∧
    (¬ timed → exec (.minimumOnExpiry c) s = .next s.pump) ∧
    (timed → x.combined = true →
      exec (.minimumOnExpiry c) s = .next (s.withChannel c { x with minOnExpired := true, timer := none }).pump) ∧
    (timed → x.combined = false → s.Alone c →
      exec (.minimumOnExpiry c) s = .next (s.outOfService c x.afterRelease).pump)

/-- The after-run's end rests the channel, and ends a wind-down at the last one (R45, R174), unless a RESTART taken has abandoned the
wind-down (R180, log 44); the minimum off's end frees it (R46); the backoff's end latches it at a count of 3, with its notice, and frees
it below (R48); the clean run's end clears the count (R49). A stopped timer's event changes nothing (log 4). -/
def Obligations.RestTimersExpire : Prop :=
  ∀ (s : State) (c : Nat), s.phase = .operating →
    let x := s.channel c
    let timed := fun (st : ChannelState) => x.defined = true ∧ x.state = st ∧ x.timer ≠ none
    let rested := s.withChannel c x.resting
    let ends := s.ctl.mode = .windDown ∧ s.NoneDrawsBut c ∧ ¬ s.RestartTaken
    (¬ timed .stopping → (s.ctl.mode = .windDown → ∃ d, (s.channel d).defined = true ∧ (s.channel d).state.drawing = true) →
      exec (.afterRunExpiry c) s = .next s.pump) ∧
    (timed .stopping → ¬ ends → exec (.afterRunExpiry c) s = .next rested.pump) ∧
    (timed .stopping → ends →
      exec (.afterRunExpiry c) s = .next rested.woundDown.pump) ∧
    (¬ timed .lockout → exec (.minimumOffExpiry c) s = .next s.pump) ∧
    (timed .lockout →
      exec (.minimumOffExpiry c) s = .next (s.withChannel c { x with state := x.asRequested, timer := none }).pump) ∧
    (¬ timed .faulted → exec (.faultBackoffExpiry c) s = .next s.pump) ∧
    (timed .faulted → x.faults ≠ 3 →
      exec (.faultBackoffExpiry c) s = .next (s.withChannel c { x with state := x.asRequested, timer := none }).pump) ∧
    (timed .faulted → x.faults = 3 →
      exec (.faultBackoffExpiry c) s = .next
        ((s.withChannel c { x with state := .latched, timer := none }).withNotice (.channelLatched c)).pump) ∧
    exec (.cleanRunExpiry c) s = .next (State.pump
      (if x.cleanRun = none then s else s.withChannel c { x with faults := 0, cleanRun := none }))

/-- A fault-sense input's change (R47): its level recorded in every state; a change to ASSERTED of a channel that draws faults it, with
its backoff, its count raised (at most 3, log 35), its notice, and the wind-down ended at the last channel (R174), unless a RESTART taken
has abandoned it (R180, log 44). A fault of an exercise channel in service postpones its exercise by 12 h, with its notice (R162); that
CHANNEL-FAULTED comes before EXERCISE-POSTPONED (log 20), and its run seconds rounded down (log 26), are the model's choice. -/
def Obligations.FaultSenseFaultsTheChannel : Prop :=
  ∀ (s : State) (c : Nat) (asserted : Bool), s.phase = .operating → c < 32 →
    let i := Instr.faultSenseReport c asserted
    let x := s.channel c
    let pinned : State := { s with sensePins := s.sensePins.set c asserted }
    let report := asserted = true ∧ x.sense = false ∧ x.defined = true ∧ x.state.drawing = true
    let faulted :=
      { x with sense := true, state := .faulted, applied := 0, minOnExpired := false, cleanRun := none, timer := some 30000
               faults := min 3 (x.faults + 1) }
    let out := (pinned.outOfService c faulted).withNotice (.channelFaulted c x.state (min 3 (x.faults + 1)))
    (¬ report → (s.ctl.mode = .windDown → ∃ d, (s.channel d).defined = true ∧ (s.channel d).state.drawing = true) →
      exec i s = .next (pinned.withChannel c { x with sense := asserted }).pump) ∧
    let ends := s.ctl.mode = .windDown ∧ s.NoneDrawsBut c ∧ ¬ s.RestartTaken
    (report → s.Alone c → ¬ ends → exec i s = .next out.pump) ∧
    (report → s.Alone c → ends → exec i s = .next out.woundDown.pump) ∧
    (∀ r, report → x.state ≠ .stopping → x.exercise = true → r < 2 → (s.exerciseRecord r).bound = some c →
      (s.exerciseRecord (1 - r)).bound ≠ some c →
      (∀ d, d ≠ c → (s.channel d).exercise = false ∧
        ((s.channel d).active = true → (s.channel d).defn.prerequisite ≠ some c)) →
      ∃ u, exec i s = .next u ∧
        u.exerciseRecord r =
          { s.exerciseRecord r with
            retry := some 43200000
            running := if x.state = .running then false else (s.exerciseRecord r).running } ∧
        (u.channel c).exercise = false ∧ (u.channel c).state = .faulted ∧ (u.channel c).timer = some 30000 ∧
        (s.link.tx ≠ .idle → s.link.notices.length < 15 → s.ctl.mode ≠ .windDown →
          u.link.notices = s.link.notices ++
            [.channelFaulted c x.state (min 3 (x.faults + 1)),
             .exercisePostponed c .fault ((s.exerciseRecord r).runTime / 1000)]))

/-- What a drive line carries (R36): a channel in STARTING or STOPPING has it on, or at Lmin for a PWM channel, in RUNNING on or at the
applied level, and in every other state off, as an undefined channel has; outside operation every line is off (R170, R175), and after
POWER_ON and RESTART_REINITIALISATION every line is off still (R53). -/
def Obligations.DriveLinesFollowTheState : Prop :=
  ∀ (s : State) (c : Nat),
    let x := s.channel c
    let driven := fun (level : Nat) => if x.defn.kind = .switch then Drive.on else .level level
    (s.phase = .operating → x.defined = true →
      s.driveLine c =
        if x.state = .starting ∨ x.state = .stopping then driven x.defn.lmin
        else if x.state = .running then driven x.applied
        else .off) ∧
    (s.phase ≠ .operating ∨ x.defined = false → s.driveLine c = .off) ∧
    (∃ u, exec .powerOn s = .next u ∧ u.driveLine c = .off) ∧
    (s.phase = .startUp → ∃ u, exec .restartReinitialisation s = .next u ∧ u.driveLine c = .off)

/-! ## The slot decision -/

/-- A slot decision (R66 to R80): taken in RUN and FALLBACK while the slot timer runs, which runs again for 250 ms; it leaves the total
within the ceiling unless no channel is STARTING or RUNNING; the rota advances (R69); a group none of whose channels is in service
or waits is refilled alone (R92); at most two channels are displaced, none at a width of 0 (R66, R77); cursors of levels at or above
the threshold stay (R75); a channel that comes into service was WAITING, or STOPPING with the restart allowance, with a priority below
the threshold (R67). At any other moment it changes nothing (log 5). -/
def Obligations.SlotDecisionKeepsTheCeiling : Prop :=
  ∀ s : State, s.phase = .operating →
    let decides := (s.ctl.mode = .run ∨ s.ctl.mode = .fallback) ∧ s.alloc.slotTimer ≠ none
    (¬ decides → exec .slotDecision s = .next s.pump) ∧
    (decides → s.GrantOrderExact → s.PrioritiesInRange →
      ∃ u, exec .slotDecision s = .next u ∧ u.CeilingBinds ∧ u.ctl = s.ctl ∧ u.settings = s.settings ∧ u.zones = s.zones ∧
        u.doors = s.doors ∧ u.line = s.line ∧ u.sel = s.sel ∧ u.store = s.store ∧
        u.alloc =
          { s.alloc with
            slotTimer := some 250
            firstSlot := decide (s.alloc.rotaLength = 0) && s.alloc.firstSlot
            rotaPosition :=
              if s.alloc.rotaLength = 0 ∨ s.alloc.firstSlot = true then s.alloc.rotaPosition
              else (s.alloc.rotaPosition + 1) % s.alloc.rotaLength
            groups := u.alloc.groups, cursors := u.alloc.cursors, displacementsLeft := u.alloc.displacementsLeft
            displacementRefused := u.alloc.displacementRefused, lastGrants := u.alloc.lastGrants
            lastReleases := u.alloc.lastReleases, lastDisplacements := u.alloc.lastDisplacements } ∧
        u.alloc.displacementsLeft + u.alloc.lastDisplacements = 2 ∧
        (s.settings.preemptionWidth = 0 → u.alloc.lastDisplacements = 0) ∧
        (∀ level, s.alloc.threshold ≤ level → u.alloc.cursors.get 0 level = s.alloc.cursors.get 0 level) ∧
        (∀ g, (u.group g).defn = (s.group g).defn) ∧
        (∀ g, g < 8 →
          (∀ c, (s.channel c).defined = true → (s.channel c).defn.group = g →
            (s.channel c).state.drawing = false ∧ (s.channel c).state ≠ .waiting) →
          u.group g =
            { s.group g with
              credit := min (((s.group g).defn.peak * (s.group g).defn.burst : Nat) : Int)
                ((s.group g).credit + ((s.group g).defn.peak / (s.group g).defn.divisor : Nat)) }) ∧
        (∀ c, (u.channel c).active = true → (s.channel c).active = false →
          (u.channel c).defn.priority < s.alloc.threshold ∧
          ((s.channel c).state = .waiting ∨
            ((s.channel c).state = .stopping ∧ (s.channel c).defn.restartAllowed = true))))

/-- A slot decision with one channel that waits, none other in service, its fault-sense input CLEAR and its start time above 0 (R69,
R72 to R75, R94, R95, R99): the refills come first and the rota advances. Named by the slot's rota entry, an eligible channel that passes
the ceiling and peak tests is started without a charge and without moving a cursor; otherwise one that passes the credit test too is
started, its surge charged and its level's cursor moved past it; otherwise it waits, the credit refusal or else the peak refusal
counted. -/
def Obligations.SlotDecisionGrantsTheWaiting : Prop :=
  ∀ (s : State) (c : Nat), s.Decides →
    (s.channel c).defined = true → (s.channel c).state = .waiting → (s.channel c).combined = true →
    (s.channel c).inhibit = false → (s.channel c).sense = false → 0 < (s.channel c).defn.startTime →
    (s.channel c).defn.priority < 8 →
    (∀ d, d ≠ c → (s.channel d).defined = true →
      (s.channel d).state.drawing = false ∧ (s.channel d).state ≠ .waiting) →
    let x := s.channel c
    let g := x.defn.group
    let t := s.slotOpened
    let y := t.group g
    let eligible := x.defn.priority < s.alloc.threshold ∧ x.defn.prerequisite = none
    let credit := (x.defn.surge : Int) ≤ y.credit
    let ceiling := x.defn.surge ≤ s.alloc.ceiling
    let peak := x.defn.startingFigure ≤ y.defn.peak
    let turn := s.slotEntry = some c ∧ ceiling ∧ peak
    (eligible → turn →
      exec .slotDecision s = .next (State.startedUp { t with alloc := { t.alloc with lastGrants := 1 } } c).pump) ∧
    (eligible → ¬ turn → credit → ceiling → peak →
      exec .slotDecision s = .next ((t.levelGrant c x.defn.surge).startedUp c).pump) ∧
    (eligible → ¬ turn → ¬ credit → exec .slotDecision s = .next (t.creditRefused g).pump) ∧
    (eligible → credit → ¬ peak → exec .slotDecision s = .next (t.peakRefused g).pump) ∧
    (¬ eligible ∨ (credit ∧ peak ∧ ¬ ceiling) → exec .slotDecision s = .next t.pump)

/-- A slot decision over one channel past its start that no other waits or runs beside (R67, R70 to R76, R94, R95, R99). A renewal, a
RUNNING channel past its minimum on that still requests: named by the slot's rota entry and passing the ceiling and peak tests it is
renewed uncharged; passing the credit test too it is renewed, its counted current charged and its level's cursor moved; otherwise it is
released, the credit refusal or else the peak refusal counted. A STOPPING channel that requests and may restart: passing its tests at its
running current at Lmin it returns to RUNNING, charged so. A PWM channel stands at or above its target, so that no rise follows. -/
def Obligations.SlotDecisionRenewsOrReleases : Prop :=
  ∀ (s : State) (c : Nat), s.Decides →
    (s.channel c).defined = true → (s.channel c).combined = true → (s.channel c).inhibit = false →
    (s.channel c).defn.priority < 8 → s.Alone c →
    (∀ d, d ≠ c → (s.channel d).defined = true →
      (s.channel d).state.drawing = false ∧ (s.channel d).state ≠ .waiting) →
    let x := s.channel c
    let g := x.defn.group
    let t := s.slotOpened
    let y := t.group g
    let eligible := x.defn.priority < s.alloc.threshold ∧ x.defn.prerequisite = none
    let renewal := x.state = .running ∧ x.minOnExpired = true ∧ (x.defn.kind = .switch ∨ x.target ≤ x.applied)
    let restart := x.state = .stopping ∧ x.defn.restartAllowed = true ∧ (x.defn.kind = .switch ∨ x.target ≤ x.defn.lmin)
    let current := if x.state = .running then x.draws else
      match x.defn.kind with | .switch => x.defn.rated | .pwm => (x.defn.rated * x.defn.lmin + 99) / 100
    let credit := (current : Int) ≤ y.credit
    let ceiling := current ≤ s.alloc.ceiling
    let peak := current ≤ y.defn.peak
    let turn := s.slotEntry = some c ∧ ceiling ∧ peak
    let counted : State := { t with alloc := { t.alloc with lastGrants := 1 } }
    let dropped := fun (v : State) =>
      State.pump (State.outOfService { v with alloc := { v.alloc with lastReleases := 1 } } c x.afterRelease)
    let resumed := fun (v : State) =>
      State.pump (State.intoRunning { v with chan := { v.chan with grantOrder := v.chan.grantOrder ++ [c] } } c
        { x with applied := x.defn.least })
    (renewal → eligible → turn → exec .slotDecision s = .next counted.pump) ∧
    (renewal → eligible → ¬ turn → credit → ceiling → peak →
      exec .slotDecision s = .next (t.levelGrant c current).pump) ∧
    (renewal → eligible → ¬ turn → ¬ credit → exec .slotDecision s = .next (dropped (t.creditRefused g))) ∧
    (renewal → eligible → credit → ¬ peak → exec .slotDecision s = .next (dropped (t.peakRefused g))) ∧
    (renewal → ¬ eligible ∨ (credit ∧ peak ∧ ¬ ceiling) → exec .slotDecision s = .next (dropped t)) ∧
    (restart → eligible → turn → exec .slotDecision s = .next (resumed counted)) ∧
    (restart → eligible → ¬ turn → credit → ceiling → peak →
      exec .slotDecision s = .next (resumed (t.levelGrant c current))) ∧
    (restart → eligible → ¬ turn → ¬ credit → exec .slotDecision s = .next (t.creditRefused g).pump) ∧
    (restart → eligible → credit → ¬ peak → exec .slotDecision s = .next (t.peakRefused g).pump) ∧
    (restart → ¬ eligible ∨ (credit ∧ peak ∧ ¬ ceiling) → exec .slotDecision s = .next t.pump)

/-- A slot decision over held channels alone, none waiting, renewed or restarted (R70, R79, R80, R93): every group is charged the counted
current of its STARTING and RUNNING channels, down to minus its capacity. Where the total is within the ceiling and one PWM channel at
most is RUNNING below its target, that channel takes the highest level up to its target that the ceiling and its group's peak allow,
uncharged, or stays where none does. Where the total is above the ceiling and the release of the head of the shedding order, a channel
that stands alone, is enough, that channel alone is released. -/
def Obligations.SlotDecisionHoldsRaisesAndSheds : Prop :=
  ∀ (s : State) (c : Nat), s.Decides → s.CreditBounds →
    (∀ d, (s.channel d).defined = true →
      (s.channel d).state ≠ .waiting ∧ ((s.channel d).state = .running → (s.channel d).minOnExpired = false) ∧
      ((s.channel d).state = .stopping → (s.channel d).defn.restartAllowed = false ∨ (s.channel d).combined = false)) →
    let x := s.channel c
    let t := s.slotOpened
    let held : State :=
      { t with alloc := { t.alloc with
          groups := t.alloc.groups.mapIdx (fun g y =>
            y.heldCharge (s.over (fun z => if z.defn.group = g ∧ z.active = true then z.draws else 0))) } }
    let leveled := fun (l : Nat) => held.withChannel c { x with applied := l }
    let fits := fun (l : Nat) =>
      (leveled l).over Channel.draws ≤ s.alloc.ceiling ∧ (leveled l).load x.defn.group ≤ (s.group x.defn.group).defn.peak
    let only := x.defined = true ∧ x.state = .running ∧ x.defn.kind = .pwm ∧
      ∀ d, d ≠ c → (s.channel d).defined = true → (s.channel d).state = .running → (s.channel d).defn.kind = .pwm →
        (s.channel d).target ≤ (s.channel d).applied
    (s.over Channel.draws ≤ s.alloc.ceiling → only → (∀ l, x.applied < l → l ≤ x.target → ¬ fits l) →
      exec .slotDecision s = .next held.pump) ∧
    (∀ l, s.over Channel.draws ≤ s.alloc.ceiling → only → x.applied < l → l ≤ x.target → fits l →
      (∀ m, l < m → m ≤ x.target → ¬ fits m) → exec .slotDecision s = .next (leveled l).pump) ∧
    (let after := held.outOfService c x.afterRelease
     s.alloc.ceiling < s.over Channel.draws → s.GrantOrderExact → s.PrioritiesInRange → s.ShedFirst c → s.Alone c →
     after.CeilingBinds →
      exec .slotDecision s = .next (State.pump { after with alloc := { after.alloc with lastReleases := 1 } }))

/-- Displacement (R77, R78): one channel `c` waits, without prerequisite and no turn of the rota, and one channel `v` runs inside its
minimum on, stands alone and counts no more than the ceiling. With `c` eligible and passing the credit test: it is granted beside `v`
where it passes the other tests; where it fails one, the preemption width is above 0, `v` is of a weaker class and, for a failing peak
test, of the same group, `v` is displaced and `c` granted where `c` then fits, and the displacement is refused where it does not; in
every other case `c` waits. A failing peak test that ends without a grant counts a peak refusal (R99). -/
def Obligations.SlotDecisionDisplaces : Prop :=
  ∀ (s : State) (c v : Nat), s.Decides → c ≠ v → s.slotEntry ≠ some c →
    (s.channel c).defined = true → (s.channel c).state = .waiting → (s.channel c).combined = true →
    (s.channel c).inhibit = false → (s.channel c).sense = false → 0 < (s.channel c).defn.startTime →
    (s.channel c).defn.priority < 8 → (s.channel c).defn.priority < s.alloc.threshold →
    (s.channel c).defn.prerequisite = none →
    (s.channel v).defined = true → (s.channel v).state = .running → (s.channel v).minOnExpired = false →
    (s.channel v).defn.priority < 8 → (s.channel v).defn.kind = .switch ∨ (s.channel v).target ≤ (s.channel v).applied →
    (s.channel v).draws ≤ s.alloc.ceiling → s.chan.grantOrder = [v] → s.Alone v →
    (∀ d, d ≠ c → d ≠ v → (s.channel d).defined = true →
      (s.channel d).state.drawing = false ∧ (s.channel d).state ≠ .waiting) →
    let x := s.channel c
    let z := s.channel v
    let g := x.defn.group
    let t := s.slotOpened
    let held := t.withGroup z.defn.group ((t.group z.defn.group).heldCharge z.draws)
    let y := held.group g
    let same := z.defn.group = g
    let credit := (x.defn.surge : Int) ≤ y.credit
    let ceiling := z.draws + x.defn.surge ≤ s.alloc.ceiling
    let peak := (if same then z.draws else 0) + x.defn.startingFigure ≤ y.defn.peak
    let w := s.settings.preemptionWidth
    let weaker := 0 < w ∧ x.defn.priority / 2 ^ (3 - w) < z.defn.priority / 2 ^ (3 - w)
    let considered := weaker ∧ (peak ∨ same)
    let room := x.defn.surge + z.defn.afterRunCurrent ≤ s.alloc.ceiling ∧ x.defn.startingFigure ≤ y.defn.peak
    let waits := fun (u : State) => if peak then u else u.peakRefused g
    (credit → ceiling → peak → exec .slotDecision s = .next ((held.levelGrant c x.defn.surge).startedUp c).pump) ∧
    (credit → ¬ (ceiling ∧ peak) → considered → room →
      let u := (held.outOfService v z.afterRelease).levelGrant c x.defn.surge
      exec .slotDecision s = .next (State.pump (State.startedUp
        { u with alloc := { u.alloc with displacementsLeft := 1, lastDisplacements := 1, lastReleases := 1 } } c))) ∧
    (credit → ¬ (ceiling ∧ peak) → considered → ¬ room →
      exec .slotDecision s = .next (State.pump (waits
        { held with alloc := { held.alloc with
            displacementRefused := countUp 65535 held.alloc.displacementRefused } }))) ∧
    (credit → ¬ (ceiling ∧ peak) → ¬ considered → exec .slotDecision s = .next (waits held).pump) ∧
    (¬ credit → exec .slotDecision s = .next (held.creditRefused g).pump)

/-! ## Stale supply and link silence -/

/-- The staleness expiry (R61): the stale flag, the safe values in force with source SAFE, and the forced release. The silence expiry in
RUN (R178, R20, R115, R62): FALLBACK with its flag, its time at 0 and its notice, the integrals 0, the door holds and doors ended,
every prompt request false, the safe values and the forced release. After either the ceiling binds; where nothing lies above the
values nothing is released. A stopped timer's event changes nothing (log 4). -/
def Obligations.SafeValuesTakeOver : Prop :=
  ∀ s : State, s.phase = .operating →
    let below := ∀ c, (s.channel c).active = true → (s.channel c).defn.priority < s.settings.safeThreshold
    let stale : State :=
      { s with
        ctl := { s.ctl with supplyStale := true }
        alloc := { s.alloc with
          ceiling := s.settings.safeCeiling, threshold := s.settings.safeThreshold, source := .safe
          stalenessTimer := none } }
    let noticed := s.withNotice (.fallbackEntered s.settings.safeCeiling s.settings.safeThreshold)
    let silent : State :=
      { noticed with
        ctl := { s.ctl with mode := .fallback, fallbackFlag := true, fallbackTime := 0 }
        zones := s.zones.map (fun z =>
          if z.defined then { z with integral := 0, hold := if z.hold = .doorHold then .normal else z.hold } else z)
        doors := Table.fill 4 { isOpen := false, limitTimer := none, limitExpired := false }
        alloc := { s.alloc with
          ceiling := s.settings.safeCeiling, threshold := s.settings.safeThreshold, source := .safe
          stalenessTimer := none, prompts := s.alloc.prompts.map (fun e => { e with runOnTimer := none }) }
        link := { noticed.link with silenceTimer := none } }
    (s.alloc.stalenessTimer = none → exec .supplyStalenessExpiry s = .next s.pump) ∧
    (s.alloc.stalenessTimer ≠ none →
      (∃ u, exec .supplyStalenessExpiry s = .next u ∧ u.ctl = stale.ctl ∧ u.alloc = stale.alloc ∧ u.zones = s.zones ∧
        u.doors = s.doors ∧ u.line = s.line ∧ u.sel = s.sel ∧
        (s.GrantOrderExact → s.PrioritiesInRange → u.CeilingBinds ∧
          ∀ c, (u.channel c).active = true → (u.channel c).defn.priority < s.settings.safeThreshold)) ∧
      (below → stale.CeilingBinds → exec .supplyStalenessExpiry s = .next stale.pump)) ∧
    (s.ctl.mode ≠ .run ∨ s.link.silenceTimer = none → exec .linkSilenceExpiry s = .next s.pump) ∧
    (s.ctl.mode = .run → s.link.silenceTimer ≠ none →
      (∃ u, exec .linkSilenceExpiry s = .next u ∧ u.ctl = silent.ctl ∧ u.alloc = silent.alloc ∧ u.zones = silent.zones ∧
        u.doors = silent.doors ∧ u.line = s.line ∧ u.sel = s.sel ∧ u.link.silenceTimer = none ∧
        (∀ c, (u.channel c).prompt = false) ∧
        (s.GrantOrderExact → s.PrioritiesInRange → u.CeilingBinds ∧
          ∀ c, (u.channel c).active = true → (u.channel c).defn.priority < s.settings.safeThreshold)) ∧
      (s.Settled → (∀ c, (s.channel c).prompt = false) → below → silent.CeilingBinds →
        exec .linkSilenceExpiry s = .next silent.pump))

/-! ## Exercise runs and the store -/

/-- An exercise hour (R158): the idle hours rise and the due flag is formed; a flag newly set asks for the channel, which waits if it was
IDLE (R159, R40). The retry timer's expiry asks again where the flag is set (R162). The run timer at the exercise duration (R161):
EXERCISE-DONE where due, the hours 0, the flag and both timers cleared, the exercise request ended, and the channel released where it asks
for nothing else and its minimum on has expired (R43). The model's choice: the run timer then stands at the exercise duration (log 42), an
expiry acts whenever its timer runs (log 4) and changes nothing on a stopped one (log 5), and the request is formed where the flag moved
(log 40). -/
def Obligations.ExerciseIsAskedAndSatisfied : Prop :=
  ∀ (s : State) (r c : Nat), s.phase = .operating → r < 2 → (s.exerciseRecord r).bound = some c →
    let rec1 := s.exerciseRecord r
    let x := s.channel c
    let counts := s.ctl.mode = .run ∨ s.ctl.mode = .fallback
    let hours := if rec1.idleHours < 65535 then rec1.idleHours + 1 else 65535
    let due := decide (s.settings.exerciseInterval ≤ hours)
    let hour := { rec1 with idleHours := hours, hourTime := 0, due := due }
    let waits := { x with exercise := true, combined := true, state := .waiting }
    let free := s.Settled ∧ counts ∧ x.defined = true ∧ x.state = .idle ∧ x.inhibit = false ∧ x.defn.prerequisite = none
    let satisfied :=
      { rec1 with idleHours := 0, hourTime := 0, due := false, retry := none, running := false
                  runTime := s.settings.exerciseDuration * 1000 }
    let told := if rec1.due then s.withNotice (.exerciseDone c rec1.idleHours) else s
    let ended := told.withRecord r satisfied
    (¬ counts ∨ x.state = .running → exec (.exerciseHour r) s = .next s.pump) ∧
    (counts → x.state ≠ .running → due = rec1.due → exec (.exerciseHour r) s = .next (s.withRecord r hour).pump) ∧
    (free → due = true → rec1.due = false → rec1.retry = none →
      exec (.exerciseHour r) s = .next ((s.withRecord r hour).withChannel c waits).pump) ∧
    (rec1.retry = none → exec (.exerciseRetryExpiry r) s = .next s.pump) ∧
    (free → rec1.retry ≠ none → rec1.due = true →
      exec (.exerciseRetryExpiry r) s = .next ((s.withRecord r { rec1 with retry := none }).withChannel c waits).pump) ∧
    (s.Settled → x.exercise = false → rec1.retry ≠ none → rec1.due = false →
      exec (.exerciseRetryExpiry r) s = .next (s.withRecord r { rec1 with retry := none }).pump) ∧
    (s.Settled → ¬ counts → x.defined = true → rec1.retry ≠ none → rec1.due = true →
      exec (.exerciseRetryExpiry r) s = .next
        ((s.withRecord r { rec1 with retry := none }).withChannel c { x with exercise := true }).pump) ∧
    (rec1.running = false → exec (.exerciseSatisfied r) s = .next s.pump) ∧
    (rec1.running = true → x.exercise = false → exec (.exerciseSatisfied r) s = .next ended.pump) ∧
    (s.Settled → rec1.running = true → x.exercise = true → x.defined = true → x.state = .running → x.own = false →
      x.drawn = false → x.prompt = false → x.defn.prerequisite = none →
      (∀ d, (s.channel d).active = true → (s.channel d).defn.prerequisite ≠ some c) →
      let quiet := { x with exercise := false, combined := false }
      exec (.exerciseSatisfied r) s = .next (State.pump
        (if x.minOnExpired then ended.outOfService c quiet.afterRelease else ended.withChannel c quiet)))

/-- A checkpoint in RUN and FALLBACK (R163, R195): written at once, or kept behind a write in flight. The ends of the writes (R194,
R195): the area, its checksum good, holds the snapshot, or a value the rules leave open where the read-back did not match (log 13),
with STORE-FAULT; the SAVE's counter write follows its configuration write, its DONE follows that, and what waits is written next. -/
def Obligations.StoreWritesEnd : Prop :=
  ∀ (s : State) (matched : Bool) (op : SaveOp) (kept : StoredCounters), s.phase = .operating →
    let status : WriteStatus := if matched then .good else .writeFailed
    let ended := fun (area : StoreArea) (x : Store) =>
      if matched then { s with store := x }
      else ({ s with store := x, freeCount := s.freeCount + 1 } : State).withNotice (.storeFault area .writeFailed)
    (s.ctl.mode ≠ .run → s.ctl.mode ≠ .fallback → exec .checkpoint s = .next s.pump) ∧
    (s.ctl.mode = .run ∨ s.ctl.mode = .fallback → exec .checkpoint s = .next (State.pump
      { s with
        chan := { s.chan with checkpointTime := 0 }
        store :=
          if s.store.write = .idle then
            { s.store with write := .checkpoint s.hours, counterArea := none, keptCheckpoint := none }
          else { s.store with keptCheckpoint := some s.hours } })) ∧
    (s.store.write ≠ .configuration → exec (.configurationWriteEnd matched) s = .next s.pump) ∧
    (s.store.write = .configuration → s.store.save = some op →
      exec (.configurationWriteEnd matched) s = .next (State.pump (ended .configuration
        { s.store with
          configArea := if matched then some op.config else failedConfiguration s.freeCount, configWrite := status
          write := .counter, counterArea := none }))) ∧
    (s.store.write ≠ .counter → exec (.counterWriteEnd matched) s = .next s.pump) ∧
    (s.store.write = .counter → s.store.save = some op →
      let t := ended .counter (Store.onward
        { s.store with
          counterArea := if matched then some op.counters else failedCounters s.freeCount, counterWrite := status
          save := none })
      exec (.counterWriteEnd matched) s = .next (State.pump
        { t with link := { t.link with
            ready := some { kind := 0x1B, tag := op.tag, code := .done, content := .nothing } } })) ∧
    ((∀ k, s.store.write ≠ .checkpoint k) → exec (.checkpointWriteEnd matched) s = .next s.pump) ∧
    (s.store.write = .checkpoint kept →
      exec (.checkpointWriteEnd matched) s = .next (State.pump (ended .counter (Store.onward
        { s.store with
          counterArea := if matched then some kept else failedCounters s.freeCount, counterWrite := status }))))

/-! ## The codec -/

/-- Decode and encode agree (R182, R185, R197, section 11.6): the frame body that a well-formed request is sent with fits a frame and
is read back as that request, every field at every value its bytes admit; a frame of unknown kind is read as one. -/
def Obligations.RequestsRoundTrip : Prop :=
  ∀ (i : Instr) (kind tag : Nat) (body : List Byte), i.wellFormed = true → encodeRequest i = some (kind, tag, body) →
    body.length ≤ 56 ∧
    decodeRequest kind tag body =
      match i with
      | .unknownKind _ _ => .unknown
      | _ => .request i
end

