-- ==== Sys2Proof/Laws/State.lean ====
section
/-! SUPPORT. One lemma per field per named update of State, so that no proof unfolds a record update. -/

namespace Sys2Proof.Machine

/-! ### State.updCtl -/

@[simp] theorem State.updCtl_phase (s : State) (f : ModeCtl → ModeCtl) : (s.updCtl f).phase = s.phase := rfl
@[simp] theorem State.updCtl_ctl (s : State) (f : ModeCtl → ModeCtl) : (s.updCtl f).ctl = f s.ctl := rfl
@[simp] theorem State.updCtl_settings (s : State) (f : ModeCtl → ModeCtl) : (s.updCtl f).settings = s.settings := rfl
@[simp] theorem State.updCtl_zones (s : State) (f : ModeCtl → ModeCtl) : (s.updCtl f).zones = s.zones := rfl
@[simp] theorem State.updCtl_doors (s : State) (f : ModeCtl → ModeCtl) : (s.updCtl f).doors = s.doors := rfl
@[simp] theorem State.updCtl_chan (s : State) (f : ModeCtl → ModeCtl) : (s.updCtl f).chan = s.chan := rfl
@[simp] theorem State.updCtl_alloc (s : State) (f : ModeCtl → ModeCtl) : (s.updCtl f).alloc = s.alloc := rfl
@[simp] theorem State.updCtl_line (s : State) (f : ModeCtl → ModeCtl) : (s.updCtl f).line = s.line := rfl
@[simp] theorem State.updCtl_sel (s : State) (f : ModeCtl → ModeCtl) : (s.updCtl f).sel = s.sel := rfl
@[simp] theorem State.updCtl_link (s : State) (f : ModeCtl → ModeCtl) : (s.updCtl f).link = s.link := rfl
@[simp] theorem State.updCtl_store (s : State) (f : ModeCtl → ModeCtl) : (s.updCtl f).store = s.store := rfl
@[simp] theorem State.updCtl_sensePins (s : State) (f : ModeCtl → ModeCtl) : (s.updCtl f).sensePins = s.sensePins := rfl
@[simp] theorem State.updCtl_freeCount (s : State) (f : ModeCtl → ModeCtl) : (s.updCtl f).freeCount = s.freeCount := rfl
@[simp] theorem State.updCtl_pending (s : State) (f : ModeCtl → ModeCtl) : (s.updCtl f).pending = s.pending := rfl

/-! ### State.updZones -/

@[simp] theorem State.updZones_phase (s : State) (f : Table Zone 12 → Table Zone 12) :
    (s.updZones f).phase = s.phase := rfl
@[simp] theorem State.updZones_ctl (s : State) (f : Table Zone 12 → Table Zone 12) : (s.updZones f).ctl = s.ctl := rfl
@[simp] theorem State.updZones_settings (s : State) (f : Table Zone 12 → Table Zone 12) :
    (s.updZones f).settings = s.settings := rfl
@[simp] theorem State.updZones_zones (s : State) (f : Table Zone 12 → Table Zone 12) :
    (s.updZones f).zones = f s.zones := rfl
@[simp] theorem State.updZones_doors (s : State) (f : Table Zone 12 → Table Zone 12) :
    (s.updZones f).doors = s.doors := rfl
@[simp] theorem State.updZones_chan (s : State) (f : Table Zone 12 → Table Zone 12) :
    (s.updZones f).chan = s.chan := rfl
@[simp] theorem State.updZones_alloc (s : State) (f : Table Zone 12 → Table Zone 12) :
    (s.updZones f).alloc = s.alloc := rfl
@[simp] theorem State.updZones_line (s : State) (f : Table Zone 12 → Table Zone 12) :
    (s.updZones f).line = s.line := rfl
@[simp] theorem State.updZones_sel (s : State) (f : Table Zone 12 → Table Zone 12) : (s.updZones f).sel = s.sel := rfl
@[simp] theorem State.updZones_link (s : State) (f : Table Zone 12 → Table Zone 12) :
    (s.updZones f).link = s.link := rfl
@[simp] theorem State.updZones_store (s : State) (f : Table Zone 12 → Table Zone 12) :
    (s.updZones f).store = s.store := rfl
@[simp] theorem State.updZones_sensePins (s : State) (f : Table Zone 12 → Table Zone 12) :
    (s.updZones f).sensePins = s.sensePins := rfl
@[simp] theorem State.updZones_freeCount (s : State) (f : Table Zone 12 → Table Zone 12) :
    (s.updZones f).freeCount = s.freeCount := rfl
@[simp] theorem State.updZones_pending (s : State) (f : Table Zone 12 → Table Zone 12) :
    (s.updZones f).pending = s.pending := rfl

/-! ### State.updDoors -/

@[simp] theorem State.updDoors_phase (s : State) (f : Table DoorGroup 4 → Table DoorGroup 4) :
    (s.updDoors f).phase = s.phase := rfl
@[simp] theorem State.updDoors_ctl (s : State) (f : Table DoorGroup 4 → Table DoorGroup 4) :
    (s.updDoors f).ctl = s.ctl := rfl
@[simp] theorem State.updDoors_settings (s : State) (f : Table DoorGroup 4 → Table DoorGroup 4) :
    (s.updDoors f).settings = s.settings := rfl
@[simp] theorem State.updDoors_zones (s : State) (f : Table DoorGroup 4 → Table DoorGroup 4) :
    (s.updDoors f).zones = s.zones := rfl
@[simp] theorem State.updDoors_doors (s : State) (f : Table DoorGroup 4 → Table DoorGroup 4) :
    (s.updDoors f).doors = f s.doors := rfl
@[simp] theorem State.updDoors_chan (s : State) (f : Table DoorGroup 4 → Table DoorGroup 4) :
    (s.updDoors f).chan = s.chan := rfl
@[simp] theorem State.updDoors_alloc (s : State) (f : Table DoorGroup 4 → Table DoorGroup 4) :
    (s.updDoors f).alloc = s.alloc := rfl
@[simp] theorem State.updDoors_line (s : State) (f : Table DoorGroup 4 → Table DoorGroup 4) :
    (s.updDoors f).line = s.line := rfl
@[simp] theorem State.updDoors_sel (s : State) (f : Table DoorGroup 4 → Table DoorGroup 4) :
    (s.updDoors f).sel = s.sel := rfl
@[simp] theorem State.updDoors_link (s : State) (f : Table DoorGroup 4 → Table DoorGroup 4) :
    (s.updDoors f).link = s.link := rfl
@[simp] theorem State.updDoors_store (s : State) (f : Table DoorGroup 4 → Table DoorGroup 4) :
    (s.updDoors f).store = s.store := rfl
@[simp] theorem State.updDoors_sensePins (s : State) (f : Table DoorGroup 4 → Table DoorGroup 4) :
    (s.updDoors f).sensePins = s.sensePins := rfl
@[simp] theorem State.updDoors_freeCount (s : State) (f : Table DoorGroup 4 → Table DoorGroup 4) :
    (s.updDoors f).freeCount = s.freeCount := rfl
@[simp] theorem State.updDoors_pending (s : State) (f : Table DoorGroup 4 → Table DoorGroup 4) :
    (s.updDoors f).pending = s.pending := rfl

/-! ### State.updChan -/

@[simp] theorem State.updChan_phase (s : State) (f : ChannelCtl → ChannelCtl) : (s.updChan f).phase = s.phase := rfl
@[simp] theorem State.updChan_ctl (s : State) (f : ChannelCtl → ChannelCtl) : (s.updChan f).ctl = s.ctl := rfl
@[simp] theorem State.updChan_settings (s : State) (f : ChannelCtl → ChannelCtl) :
    (s.updChan f).settings = s.settings := rfl
@[simp] theorem State.updChan_zones (s : State) (f : ChannelCtl → ChannelCtl) : (s.updChan f).zones = s.zones := rfl
@[simp] theorem State.updChan_doors (s : State) (f : ChannelCtl → ChannelCtl) : (s.updChan f).doors = s.doors := rfl
@[simp] theorem State.updChan_chan (s : State) (f : ChannelCtl → ChannelCtl) : (s.updChan f).chan = f s.chan := rfl
@[simp] theorem State.updChan_alloc (s : State) (f : ChannelCtl → ChannelCtl) : (s.updChan f).alloc = s.alloc := rfl
@[simp] theorem State.updChan_line (s : State) (f : ChannelCtl → ChannelCtl) : (s.updChan f).line = s.line := rfl
@[simp] theorem State.updChan_sel (s : State) (f : ChannelCtl → ChannelCtl) : (s.updChan f).sel = s.sel := rfl
@[simp] theorem State.updChan_link (s : State) (f : ChannelCtl → ChannelCtl) : (s.updChan f).link = s.link := rfl
@[simp] theorem State.updChan_store (s : State) (f : ChannelCtl → ChannelCtl) : (s.updChan f).store = s.store := rfl
@[simp] theorem State.updChan_sensePins (s : State) (f : ChannelCtl → ChannelCtl) :
    (s.updChan f).sensePins = s.sensePins := rfl
@[simp] theorem State.updChan_freeCount (s : State) (f : ChannelCtl → ChannelCtl) :
    (s.updChan f).freeCount = s.freeCount := rfl
@[simp] theorem State.updChan_pending (s : State) (f : ChannelCtl → ChannelCtl) :
    (s.updChan f).pending = s.pending := rfl

/-! ### State.updAlloc -/

@[simp] theorem State.updAlloc_phase (s : State) (f : Allocator → Allocator) : (s.updAlloc f).phase = s.phase := rfl
@[simp] theorem State.updAlloc_ctl (s : State) (f : Allocator → Allocator) : (s.updAlloc f).ctl = s.ctl := rfl
@[simp] theorem State.updAlloc_settings (s : State) (f : Allocator → Allocator) :
    (s.updAlloc f).settings = s.settings := rfl
@[simp] theorem State.updAlloc_zones (s : State) (f : Allocator → Allocator) : (s.updAlloc f).zones = s.zones := rfl
@[simp] theorem State.updAlloc_doors (s : State) (f : Allocator → Allocator) : (s.updAlloc f).doors = s.doors := rfl
@[simp] theorem State.updAlloc_chan (s : State) (f : Allocator → Allocator) : (s.updAlloc f).chan = s.chan := rfl
@[simp] theorem State.updAlloc_alloc (s : State) (f : Allocator → Allocator) : (s.updAlloc f).alloc = f s.alloc := rfl
@[simp] theorem State.updAlloc_line (s : State) (f : Allocator → Allocator) : (s.updAlloc f).line = s.line := rfl
@[simp] theorem State.updAlloc_sel (s : State) (f : Allocator → Allocator) : (s.updAlloc f).sel = s.sel := rfl
@[simp] theorem State.updAlloc_link (s : State) (f : Allocator → Allocator) : (s.updAlloc f).link = s.link := rfl
@[simp] theorem State.updAlloc_store (s : State) (f : Allocator → Allocator) : (s.updAlloc f).store = s.store := rfl
@[simp] theorem State.updAlloc_sensePins (s : State) (f : Allocator → Allocator) :
    (s.updAlloc f).sensePins = s.sensePins := rfl
@[simp] theorem State.updAlloc_freeCount (s : State) (f : Allocator → Allocator) :
    (s.updAlloc f).freeCount = s.freeCount := rfl
@[simp] theorem State.updAlloc_pending (s : State) (f : Allocator → Allocator) :
    (s.updAlloc f).pending = s.pending := rfl

/-! ### State.updLine -/

@[simp] theorem State.updLine_phase (s : State) (f : StationLine → StationLine) : (s.updLine f).phase = s.phase := rfl
@[simp] theorem State.updLine_ctl (s : State) (f : StationLine → StationLine) : (s.updLine f).ctl = s.ctl := rfl
@[simp] theorem State.updLine_settings (s : State) (f : StationLine → StationLine) :
    (s.updLine f).settings = s.settings := rfl
@[simp] theorem State.updLine_zones (s : State) (f : StationLine → StationLine) : (s.updLine f).zones = s.zones := rfl
@[simp] theorem State.updLine_doors (s : State) (f : StationLine → StationLine) : (s.updLine f).doors = s.doors := rfl
@[simp] theorem State.updLine_chan (s : State) (f : StationLine → StationLine) : (s.updLine f).chan = s.chan := rfl
@[simp] theorem State.updLine_alloc (s : State) (f : StationLine → StationLine) : (s.updLine f).alloc = s.alloc := rfl
@[simp] theorem State.updLine_line (s : State) (f : StationLine → StationLine) : (s.updLine f).line = f s.line := rfl
@[simp] theorem State.updLine_sel (s : State) (f : StationLine → StationLine) : (s.updLine f).sel = s.sel := rfl
@[simp] theorem State.updLine_link (s : State) (f : StationLine → StationLine) : (s.updLine f).link = s.link := rfl
@[simp] theorem State.updLine_store (s : State) (f : StationLine → StationLine) : (s.updLine f).store = s.store := rfl
@[simp] theorem State.updLine_sensePins (s : State) (f : StationLine → StationLine) :
    (s.updLine f).sensePins = s.sensePins := rfl
@[simp] theorem State.updLine_freeCount (s : State) (f : StationLine → StationLine) :
    (s.updLine f).freeCount = s.freeCount := rfl
@[simp] theorem State.updLine_pending (s : State) (f : StationLine → StationLine) :
    (s.updLine f).pending = s.pending := rfl

/-! ### State.updSel -/

@[simp] theorem State.updSel_phase (s : State) (f : Selector → Selector) : (s.updSel f).phase = s.phase := rfl
@[simp] theorem State.updSel_ctl (s : State) (f : Selector → Selector) : (s.updSel f).ctl = s.ctl := rfl
@[simp] theorem State.updSel_settings (s : State) (f : Selector → Selector) : (s.updSel f).settings = s.settings := rfl
@[simp] theorem State.updSel_zones (s : State) (f : Selector → Selector) : (s.updSel f).zones = s.zones := rfl
@[simp] theorem State.updSel_doors (s : State) (f : Selector → Selector) : (s.updSel f).doors = s.doors := rfl
@[simp] theorem State.updSel_chan (s : State) (f : Selector → Selector) : (s.updSel f).chan = s.chan := rfl
@[simp] theorem State.updSel_alloc (s : State) (f : Selector → Selector) : (s.updSel f).alloc = s.alloc := rfl
@[simp] theorem State.updSel_line (s : State) (f : Selector → Selector) : (s.updSel f).line = s.line := rfl
@[simp] theorem State.updSel_sel (s : State) (f : Selector → Selector) : (s.updSel f).sel = f s.sel := rfl
@[simp] theorem State.updSel_link (s : State) (f : Selector → Selector) : (s.updSel f).link = s.link := rfl
@[simp] theorem State.updSel_store (s : State) (f : Selector → Selector) : (s.updSel f).store = s.store := rfl
@[simp] theorem State.updSel_sensePins (s : State) (f : Selector → Selector) :
    (s.updSel f).sensePins = s.sensePins := rfl
@[simp] theorem State.updSel_freeCount (s : State) (f : Selector → Selector) :
    (s.updSel f).freeCount = s.freeCount := rfl
@[simp] theorem State.updSel_pending (s : State) (f : Selector → Selector) : (s.updSel f).pending = s.pending := rfl

/-! ### State.updLink -/

@[simp] theorem State.updLink_phase (s : State) (f : LinkPort → LinkPort) : (s.updLink f).phase = s.phase := rfl
@[simp] theorem State.updLink_ctl (s : State) (f : LinkPort → LinkPort) : (s.updLink f).ctl = s.ctl := rfl
@[simp] theorem State.updLink_settings (s : State) (f : LinkPort → LinkPort) :
    (s.updLink f).settings = s.settings := rfl
@[simp] theorem State.updLink_zones (s : State) (f : LinkPort → LinkPort) : (s.updLink f).zones = s.zones := rfl
@[simp] theorem State.updLink_doors (s : State) (f : LinkPort → LinkPort) : (s.updLink f).doors = s.doors := rfl
@[simp] theorem State.updLink_chan (s : State) (f : LinkPort → LinkPort) : (s.updLink f).chan = s.chan := rfl
@[simp] theorem State.updLink_alloc (s : State) (f : LinkPort → LinkPort) : (s.updLink f).alloc = s.alloc := rfl
@[simp] theorem State.updLink_line (s : State) (f : LinkPort → LinkPort) : (s.updLink f).line = s.line := rfl
@[simp] theorem State.updLink_sel (s : State) (f : LinkPort → LinkPort) : (s.updLink f).sel = s.sel := rfl
@[simp] theorem State.updLink_link (s : State) (f : LinkPort → LinkPort) : (s.updLink f).link = f s.link := rfl
@[simp] theorem State.updLink_store (s : State) (f : LinkPort → LinkPort) : (s.updLink f).store = s.store := rfl
@[simp] theorem State.updLink_sensePins (s : State) (f : LinkPort → LinkPort) :
    (s.updLink f).sensePins = s.sensePins := rfl
@[simp] theorem State.updLink_freeCount (s : State) (f : LinkPort → LinkPort) :
    (s.updLink f).freeCount = s.freeCount := rfl
@[simp] theorem State.updLink_pending (s : State) (f : LinkPort → LinkPort) : (s.updLink f).pending = s.pending := rfl

/-! ### State.updStore -/

@[simp] theorem State.updStore_phase (s : State) (f : Store → Store) : (s.updStore f).phase = s.phase := rfl
@[simp] theorem State.updStore_ctl (s : State) (f : Store → Store) : (s.updStore f).ctl = s.ctl := rfl
@[simp] theorem State.updStore_settings (s : State) (f : Store → Store) : (s.updStore f).settings = s.settings := rfl
@[simp] theorem State.updStore_zones (s : State) (f : Store → Store) : (s.updStore f).zones = s.zones := rfl
@[simp] theorem State.updStore_doors (s : State) (f : Store → Store) : (s.updStore f).doors = s.doors := rfl
@[simp] theorem State.updStore_chan (s : State) (f : Store → Store) : (s.updStore f).chan = s.chan := rfl
@[simp] theorem State.updStore_alloc (s : State) (f : Store → Store) : (s.updStore f).alloc = s.alloc := rfl
@[simp] theorem State.updStore_line (s : State) (f : Store → Store) : (s.updStore f).line = s.line := rfl
@[simp] theorem State.updStore_sel (s : State) (f : Store → Store) : (s.updStore f).sel = s.sel := rfl
@[simp] theorem State.updStore_link (s : State) (f : Store → Store) : (s.updStore f).link = s.link := rfl
@[simp] theorem State.updStore_store (s : State) (f : Store → Store) : (s.updStore f).store = f s.store := rfl
@[simp] theorem State.updStore_sensePins (s : State) (f : Store → Store) : (s.updStore f).sensePins = s.sensePins := rfl
@[simp] theorem State.updStore_freeCount (s : State) (f : Store → Store) : (s.updStore f).freeCount = s.freeCount := rfl
@[simp] theorem State.updStore_pending (s : State) (f : Store → Store) : (s.updStore f).pending = s.pending := rfl

/-! ### State.setSettings -/

@[simp] theorem State.setSettings_phase (s : State) (x : Settings) : (s.setSettings x).phase = s.phase := rfl
@[simp] theorem State.setSettings_ctl (s : State) (x : Settings) : (s.setSettings x).ctl = s.ctl := rfl
@[simp] theorem State.setSettings_settings (s : State) (x : Settings) : (s.setSettings x).settings = x := rfl
@[simp] theorem State.setSettings_zones (s : State) (x : Settings) : (s.setSettings x).zones = s.zones := rfl
@[simp] theorem State.setSettings_doors (s : State) (x : Settings) : (s.setSettings x).doors = s.doors := rfl
@[simp] theorem State.setSettings_chan (s : State) (x : Settings) : (s.setSettings x).chan = s.chan := rfl
@[simp] theorem State.setSettings_alloc (s : State) (x : Settings) : (s.setSettings x).alloc = s.alloc := rfl
@[simp] theorem State.setSettings_line (s : State) (x : Settings) : (s.setSettings x).line = s.line := rfl
@[simp] theorem State.setSettings_sel (s : State) (x : Settings) : (s.setSettings x).sel = s.sel := rfl
@[simp] theorem State.setSettings_link (s : State) (x : Settings) : (s.setSettings x).link = s.link := rfl
@[simp] theorem State.setSettings_store (s : State) (x : Settings) : (s.setSettings x).store = s.store := rfl
@[simp] theorem State.setSettings_sensePins (s : State) (x : Settings) :
    (s.setSettings x).sensePins = s.sensePins := rfl
@[simp] theorem State.setSettings_freeCount (s : State) (x : Settings) :
    (s.setSettings x).freeCount = s.freeCount := rfl
@[simp] theorem State.setSettings_pending (s : State) (x : Settings) : (s.setSettings x).pending = s.pending := rfl

/-! ### State.setPhase -/

@[simp] theorem State.setPhase_phase (s : State) (p : Phase) : (s.setPhase p).phase = p := rfl
@[simp] theorem State.setPhase_ctl (s : State) (p : Phase) : (s.setPhase p).ctl = s.ctl := rfl
@[simp] theorem State.setPhase_settings (s : State) (p : Phase) : (s.setPhase p).settings = s.settings := rfl
@[simp] theorem State.setPhase_zones (s : State) (p : Phase) : (s.setPhase p).zones = s.zones := rfl
@[simp] theorem State.setPhase_doors (s : State) (p : Phase) : (s.setPhase p).doors = s.doors := rfl
@[simp] theorem State.setPhase_chan (s : State) (p : Phase) : (s.setPhase p).chan = s.chan := rfl
@[simp] theorem State.setPhase_alloc (s : State) (p : Phase) : (s.setPhase p).alloc = s.alloc := rfl
@[simp] theorem State.setPhase_line (s : State) (p : Phase) : (s.setPhase p).line = s.line := rfl
@[simp] theorem State.setPhase_sel (s : State) (p : Phase) : (s.setPhase p).sel = s.sel := rfl
@[simp] theorem State.setPhase_link (s : State) (p : Phase) : (s.setPhase p).link = s.link := rfl
@[simp] theorem State.setPhase_store (s : State) (p : Phase) : (s.setPhase p).store = s.store := rfl
@[simp] theorem State.setPhase_sensePins (s : State) (p : Phase) : (s.setPhase p).sensePins = s.sensePins := rfl
@[simp] theorem State.setPhase_freeCount (s : State) (p : Phase) : (s.setPhase p).freeCount = s.freeCount := rfl
@[simp] theorem State.setPhase_pending (s : State) (p : Phase) : (s.setPhase p).pending = s.pending := rfl

/-! ### State.setFreeCount -/

@[simp] theorem State.setFreeCount_phase (s : State) (n : Nat) : (s.setFreeCount n).phase = s.phase := rfl
@[simp] theorem State.setFreeCount_ctl (s : State) (n : Nat) : (s.setFreeCount n).ctl = s.ctl := rfl
@[simp] theorem State.setFreeCount_settings (s : State) (n : Nat) : (s.setFreeCount n).settings = s.settings := rfl
@[simp] theorem State.setFreeCount_zones (s : State) (n : Nat) : (s.setFreeCount n).zones = s.zones := rfl
@[simp] theorem State.setFreeCount_doors (s : State) (n : Nat) : (s.setFreeCount n).doors = s.doors := rfl
@[simp] theorem State.setFreeCount_chan (s : State) (n : Nat) : (s.setFreeCount n).chan = s.chan := rfl
@[simp] theorem State.setFreeCount_alloc (s : State) (n : Nat) : (s.setFreeCount n).alloc = s.alloc := rfl
@[simp] theorem State.setFreeCount_line (s : State) (n : Nat) : (s.setFreeCount n).line = s.line := rfl
@[simp] theorem State.setFreeCount_sel (s : State) (n : Nat) : (s.setFreeCount n).sel = s.sel := rfl
@[simp] theorem State.setFreeCount_link (s : State) (n : Nat) : (s.setFreeCount n).link = s.link := rfl
@[simp] theorem State.setFreeCount_store (s : State) (n : Nat) : (s.setFreeCount n).store = s.store := rfl
@[simp] theorem State.setFreeCount_sensePins (s : State) (n : Nat) : (s.setFreeCount n).sensePins = s.sensePins := rfl
@[simp] theorem State.setFreeCount_freeCount (s : State) (n : Nat) : (s.setFreeCount n).freeCount = n := rfl
@[simp] theorem State.setFreeCount_pending (s : State) (n : Nat) : (s.setFreeCount n).pending = s.pending := rfl

/-! ### State.setSensePins -/

@[simp] theorem State.setSensePins_phase (s : State) (t : Table Bool 32) : (s.setSensePins t).phase = s.phase := rfl
@[simp] theorem State.setSensePins_ctl (s : State) (t : Table Bool 32) : (s.setSensePins t).ctl = s.ctl := rfl
@[simp] theorem State.setSensePins_settings (s : State) (t : Table Bool 32) :
    (s.setSensePins t).settings = s.settings := rfl
@[simp] theorem State.setSensePins_zones (s : State) (t : Table Bool 32) : (s.setSensePins t).zones = s.zones := rfl
@[simp] theorem State.setSensePins_doors (s : State) (t : Table Bool 32) : (s.setSensePins t).doors = s.doors := rfl
@[simp] theorem State.setSensePins_chan (s : State) (t : Table Bool 32) : (s.setSensePins t).chan = s.chan := rfl
@[simp] theorem State.setSensePins_alloc (s : State) (t : Table Bool 32) : (s.setSensePins t).alloc = s.alloc := rfl
@[simp] theorem State.setSensePins_line (s : State) (t : Table Bool 32) : (s.setSensePins t).line = s.line := rfl
@[simp] theorem State.setSensePins_sel (s : State) (t : Table Bool 32) : (s.setSensePins t).sel = s.sel := rfl
@[simp] theorem State.setSensePins_link (s : State) (t : Table Bool 32) : (s.setSensePins t).link = s.link := rfl
@[simp] theorem State.setSensePins_store (s : State) (t : Table Bool 32) : (s.setSensePins t).store = s.store := rfl
@[simp] theorem State.setSensePins_sensePins (s : State) (t : Table Bool 32) : (s.setSensePins t).sensePins = t := rfl
@[simp] theorem State.setSensePins_freeCount (s : State) (t : Table Bool 32) :
    (s.setSensePins t).freeCount = s.freeCount := rfl
@[simp] theorem State.setSensePins_pending (s : State) (t : Table Bool 32) :
    (s.setSensePins t).pending = s.pending := rfl

/-! ### State.setPending -/

@[simp] theorem State.setPending_phase (s : State) (q : List Instr) : (s.setPending q).phase = s.phase := rfl
@[simp] theorem State.setPending_ctl (s : State) (q : List Instr) : (s.setPending q).ctl = s.ctl := rfl
@[simp] theorem State.setPending_settings (s : State) (q : List Instr) : (s.setPending q).settings = s.settings := rfl
@[simp] theorem State.setPending_zones (s : State) (q : List Instr) : (s.setPending q).zones = s.zones := rfl
@[simp] theorem State.setPending_doors (s : State) (q : List Instr) : (s.setPending q).doors = s.doors := rfl
@[simp] theorem State.setPending_chan (s : State) (q : List Instr) : (s.setPending q).chan = s.chan := rfl
@[simp] theorem State.setPending_alloc (s : State) (q : List Instr) : (s.setPending q).alloc = s.alloc := rfl
@[simp] theorem State.setPending_line (s : State) (q : List Instr) : (s.setPending q).line = s.line := rfl
@[simp] theorem State.setPending_sel (s : State) (q : List Instr) : (s.setPending q).sel = s.sel := rfl
@[simp] theorem State.setPending_link (s : State) (q : List Instr) : (s.setPending q).link = s.link := rfl
@[simp] theorem State.setPending_store (s : State) (q : List Instr) : (s.setPending q).store = s.store := rfl
@[simp] theorem State.setPending_sensePins (s : State) (q : List Instr) :
    (s.setPending q).sensePins = s.sensePins := rfl
@[simp] theorem State.setPending_freeCount (s : State) (q : List Instr) :
    (s.setPending q).freeCount = s.freeCount := rfl
@[simp] theorem State.setPending_pending (s : State) (q : List Instr) : (s.setPending q).pending = q := rfl

/-! ### State.setZone -/

@[simp] theorem State.setZone_phase (s : State) (n : Nat) (z : Zone) : (s.setZone n z).phase = s.phase := rfl
@[simp] theorem State.setZone_ctl (s : State) (n : Nat) (z : Zone) : (s.setZone n z).ctl = s.ctl := rfl
@[simp] theorem State.setZone_settings (s : State) (n : Nat) (z : Zone) : (s.setZone n z).settings = s.settings := rfl
@[simp] theorem State.setZone_zones (s : State) (n : Nat) (z : Zone) : (s.setZone n z).zones = s.zones.set1 n z := rfl
@[simp] theorem State.setZone_doors (s : State) (n : Nat) (z : Zone) : (s.setZone n z).doors = s.doors := rfl
@[simp] theorem State.setZone_chan (s : State) (n : Nat) (z : Zone) : (s.setZone n z).chan = s.chan := rfl
@[simp] theorem State.setZone_alloc (s : State) (n : Nat) (z : Zone) : (s.setZone n z).alloc = s.alloc := rfl
@[simp] theorem State.setZone_line (s : State) (n : Nat) (z : Zone) : (s.setZone n z).line = s.line := rfl
@[simp] theorem State.setZone_sel (s : State) (n : Nat) (z : Zone) : (s.setZone n z).sel = s.sel := rfl
@[simp] theorem State.setZone_link (s : State) (n : Nat) (z : Zone) : (s.setZone n z).link = s.link := rfl
@[simp] theorem State.setZone_store (s : State) (n : Nat) (z : Zone) : (s.setZone n z).store = s.store := rfl
@[simp] theorem State.setZone_sensePins (s : State) (n : Nat) (z : Zone) :
    (s.setZone n z).sensePins = s.sensePins := rfl
@[simp] theorem State.setZone_freeCount (s : State) (n : Nat) (z : Zone) :
    (s.setZone n z).freeCount = s.freeCount := rfl
@[simp] theorem State.setZone_pending (s : State) (n : Nat) (z : Zone) : (s.setZone n z).pending = s.pending := rfl

/-! ### State.setDoor -/

@[simp] theorem State.setDoor_phase (s : State) (g : Nat) (d : DoorGroup) : (s.setDoor g d).phase = s.phase := rfl
@[simp] theorem State.setDoor_ctl (s : State) (g : Nat) (d : DoorGroup) : (s.setDoor g d).ctl = s.ctl := rfl
@[simp] theorem State.setDoor_settings (s : State) (g : Nat) (d : DoorGroup) :
    (s.setDoor g d).settings = s.settings := rfl
@[simp] theorem State.setDoor_zones (s : State) (g : Nat) (d : DoorGroup) : (s.setDoor g d).zones = s.zones := rfl
@[simp] theorem State.setDoor_doors (s : State) (g : Nat) (d : DoorGroup) :
    (s.setDoor g d).doors = s.doors.set1 g d := rfl
@[simp] theorem State.setDoor_chan (s : State) (g : Nat) (d : DoorGroup) : (s.setDoor g d).chan = s.chan := rfl
@[simp] theorem State.setDoor_alloc (s : State) (g : Nat) (d : DoorGroup) : (s.setDoor g d).alloc = s.alloc := rfl
@[simp] theorem State.setDoor_line (s : State) (g : Nat) (d : DoorGroup) : (s.setDoor g d).line = s.line := rfl
@[simp] theorem State.setDoor_sel (s : State) (g : Nat) (d : DoorGroup) : (s.setDoor g d).sel = s.sel := rfl
@[simp] theorem State.setDoor_link (s : State) (g : Nat) (d : DoorGroup) : (s.setDoor g d).link = s.link := rfl
@[simp] theorem State.setDoor_store (s : State) (g : Nat) (d : DoorGroup) : (s.setDoor g d).store = s.store := rfl
@[simp] theorem State.setDoor_sensePins (s : State) (g : Nat) (d : DoorGroup) :
    (s.setDoor g d).sensePins = s.sensePins := rfl
@[simp] theorem State.setDoor_freeCount (s : State) (g : Nat) (d : DoorGroup) :
    (s.setDoor g d).freeCount = s.freeCount := rfl
@[simp] theorem State.setDoor_pending (s : State) (g : Nat) (d : DoorGroup) : (s.setDoor g d).pending = s.pending := rfl

/-! ### State.setStation -/

@[simp] theorem State.setStation_phase (s : State) (i : Nat) (x : Station) : (s.setStation i x).phase = s.phase := rfl
@[simp] theorem State.setStation_ctl (s : State) (i : Nat) (x : Station) : (s.setStation i x).ctl = s.ctl := rfl
@[simp] theorem State.setStation_settings (s : State) (i : Nat) (x : Station) :
    (s.setStation i x).settings = s.settings := rfl
@[simp] theorem State.setStation_zones (s : State) (i : Nat) (x : Station) : (s.setStation i x).zones = s.zones := rfl
@[simp] theorem State.setStation_doors (s : State) (i : Nat) (x : Station) : (s.setStation i x).doors = s.doors := rfl
@[simp] theorem State.setStation_chan (s : State) (i : Nat) (x : Station) : (s.setStation i x).chan = s.chan := rfl
@[simp] theorem State.setStation_alloc (s : State) (i : Nat) (x : Station) : (s.setStation i x).alloc = s.alloc := rfl
@[simp] theorem State.setStation_line (s : State) (i : Nat) (x : Station) :
    (s.setStation i x).line = { s.line with stations := s.line.stations.set i x } := rfl
@[simp] theorem State.setStation_sel (s : State) (i : Nat) (x : Station) : (s.setStation i x).sel = s.sel := rfl
@[simp] theorem State.setStation_link (s : State) (i : Nat) (x : Station) : (s.setStation i x).link = s.link := rfl
@[simp] theorem State.setStation_store (s : State) (i : Nat) (x : Station) : (s.setStation i x).store = s.store := rfl
@[simp] theorem State.setStation_sensePins (s : State) (i : Nat) (x : Station) :
    (s.setStation i x).sensePins = s.sensePins := rfl
@[simp] theorem State.setStation_freeCount (s : State) (i : Nat) (x : Station) :
    (s.setStation i x).freeCount = s.freeCount := rfl
@[simp] theorem State.setStation_pending (s : State) (i : Nat) (x : Station) :
    (s.setStation i x).pending = s.pending := rfl

/-! ### State.notify -/

@[simp] theorem State.notify_phase (s : State) (n : Notice) : (s.notify n).phase = s.phase := rfl
@[simp] theorem State.notify_ctl (s : State) (n : Notice) : (s.notify n).ctl = s.ctl := rfl
@[simp] theorem State.notify_settings (s : State) (n : Notice) : (s.notify n).settings = s.settings := rfl
@[simp] theorem State.notify_zones (s : State) (n : Notice) : (s.notify n).zones = s.zones := rfl
@[simp] theorem State.notify_doors (s : State) (n : Notice) : (s.notify n).doors = s.doors := rfl
@[simp] theorem State.notify_chan (s : State) (n : Notice) : (s.notify n).chan = s.chan := rfl
@[simp] theorem State.notify_alloc (s : State) (n : Notice) : (s.notify n).alloc = s.alloc := rfl
@[simp] theorem State.notify_line (s : State) (n : Notice) : (s.notify n).line = s.line := rfl
@[simp] theorem State.notify_sel (s : State) (n : Notice) : (s.notify n).sel = s.sel := rfl
@[simp] theorem State.notify_link (s : State) (n : Notice) : (s.notify n).link = s.link.queueNotice n := rfl
@[simp] theorem State.notify_store (s : State) (n : Notice) : (s.notify n).store = s.store := rfl
@[simp] theorem State.notify_sensePins (s : State) (n : Notice) : (s.notify n).sensePins = s.sensePins := rfl
@[simp] theorem State.notify_freeCount (s : State) (n : Notice) : (s.notify n).freeCount = s.freeCount := rfl
@[simp] theorem State.notify_pending (s : State) (n : Notice) : (s.notify n).pending = s.pending := rfl

/-! ### State.notifyAll -/

@[simp] theorem State.notifyAll_phase (s : State) (ns : List Notice) : (s.notifyAll ns).phase = s.phase := rfl
@[simp] theorem State.notifyAll_ctl (s : State) (ns : List Notice) : (s.notifyAll ns).ctl = s.ctl := rfl
@[simp] theorem State.notifyAll_settings (s : State) (ns : List Notice) : (s.notifyAll ns).settings = s.settings := rfl
@[simp] theorem State.notifyAll_zones (s : State) (ns : List Notice) : (s.notifyAll ns).zones = s.zones := rfl
@[simp] theorem State.notifyAll_doors (s : State) (ns : List Notice) : (s.notifyAll ns).doors = s.doors := rfl
@[simp] theorem State.notifyAll_chan (s : State) (ns : List Notice) : (s.notifyAll ns).chan = s.chan := rfl
@[simp] theorem State.notifyAll_alloc (s : State) (ns : List Notice) : (s.notifyAll ns).alloc = s.alloc := rfl
@[simp] theorem State.notifyAll_line (s : State) (ns : List Notice) : (s.notifyAll ns).line = s.line := rfl
@[simp] theorem State.notifyAll_sel (s : State) (ns : List Notice) : (s.notifyAll ns).sel = s.sel := rfl
@[simp] theorem State.notifyAll_link (s : State) (ns : List Notice) :
    (s.notifyAll ns).link = s.link.queueNotices ns := rfl
@[simp] theorem State.notifyAll_store (s : State) (ns : List Notice) : (s.notifyAll ns).store = s.store := rfl
@[simp] theorem State.notifyAll_sensePins (s : State) (ns : List Notice) :
    (s.notifyAll ns).sensePins = s.sensePins := rfl
@[simp] theorem State.notifyAll_freeCount (s : State) (ns : List Notice) :
    (s.notifyAll ns).freeCount = s.freeCount := rfl
@[simp] theorem State.notifyAll_pending (s : State) (ns : List Notice) : (s.notifyAll ns).pending = s.pending := rfl

/-! ### State.reply -/

@[simp] theorem State.reply_phase (s : State) (kind tag : Nat) (code : ResultCode) (content : Content) :
    (s.reply kind tag code content).phase = s.phase := rfl
@[simp] theorem State.reply_ctl (s : State) (kind tag : Nat) (code : ResultCode) (content : Content) :
    (s.reply kind tag code content).ctl = s.ctl := rfl
@[simp] theorem State.reply_settings (s : State) (kind tag : Nat) (code : ResultCode) (content : Content) :
    (s.reply kind tag code content).settings = s.settings := rfl
@[simp] theorem State.reply_zones (s : State) (kind tag : Nat) (code : ResultCode) (content : Content) :
    (s.reply kind tag code content).zones = s.zones := rfl
@[simp] theorem State.reply_doors (s : State) (kind tag : Nat) (code : ResultCode) (content : Content) :
    (s.reply kind tag code content).doors = s.doors := rfl
@[simp] theorem State.reply_chan (s : State) (kind tag : Nat) (code : ResultCode) (content : Content) :
    (s.reply kind tag code content).chan = s.chan := rfl
@[simp] theorem State.reply_alloc (s : State) (kind tag : Nat) (code : ResultCode) (content : Content) :
    (s.reply kind tag code content).alloc = s.alloc := rfl
@[simp] theorem State.reply_line (s : State) (kind tag : Nat) (code : ResultCode) (content : Content) :
    (s.reply kind tag code content).line = s.line := rfl
@[simp] theorem State.reply_sel (s : State) (kind tag : Nat) (code : ResultCode) (content : Content) :
    (s.reply kind tag code content).sel = s.sel := rfl
@[simp] theorem State.reply_link (s : State) (kind tag : Nat) (code : ResultCode) (content : Content) :
    (s.reply kind tag code content).link = { s.link with ready := some ⟨kind, tag, code, content⟩ } := rfl
@[simp] theorem State.reply_store (s : State) (kind tag : Nat) (code : ResultCode) (content : Content) :
    (s.reply kind tag code content).store = s.store := rfl
@[simp] theorem State.reply_sensePins (s : State) (kind tag : Nat) (code : ResultCode) (content : Content) :
    (s.reply kind tag code content).sensePins = s.sensePins := rfl
@[simp] theorem State.reply_freeCount (s : State) (kind tag : Nat) (code : ResultCode) (content : Content) :
    (s.reply kind tag code content).freeCount = s.freeCount := rfl
@[simp] theorem State.reply_pending (s : State) (kind tag : Nat) (code : ResultCode) (content : Content) :
    (s.reply kind tag code content).pending = s.pending := rfl

end Sys2Proof.Machine
end

