-- ==== Sys2Proof/Laws/Table.lean ====
section
/-! SUPPORT. The record table: a read after a write, the two ways of mapping, and the numbers that satisfy a test. -/

namespace Sys2Proof

variable {α β : Type} {n : Nat}

@[simp] theorem Table.rows_fill (a : α) : (Table.fill n a).rows = List.replicate n a := rfl

@[simp] theorem Table.rows_set (t : Table α n) (i : Nat) (a : α) : (t.set i a).rows = t.rows.set i a := rfl

@[simp] theorem Table.rows_map (t : Table α n) (f : α → β) : (t.map f).rows = t.rows.map f := rfl

@[simp] theorem Table.rows_mapIdx (t : Table α n) (f : Nat → α → β) : (t.mapIdx f).rows = mapFrom f 0 t.rows := rfl

/-- Two tables with the same rows are the same table. -/
theorem Table.ext_rows {t u : Table α n} (h : t.rows = u.rows) : t = u := by
  cases t; cases u; cases h; rfl

/-- A record read after a write: the record written, where the table has it. -/
theorem Table.get_set (t : Table α n) (d a : α) (i j : Nat) :
    (t.set i a).get d j = if i = j ∧ i < n then a else t.get d j := by
  have := t.size
  unfold Table.get Table.set
  simp only [List.getD_eq_getElem?_getD, List.getElem?_set]
  by_cases h : i = j
  · subst h
    by_cases hn : i < n
    · simp [hn, this]
    · simp [hn, this]
  · simp [h]

@[simp] theorem Table.get_set_self (t : Table α n) (d a : α) {i : Nat} (h : i < n) : (t.set i a).get d i = a := by
  simp [Table.get_set, h]

theorem Table.get_set_ne (t : Table α n) (d a : α) {i j : Nat} (h : i ≠ j) : (t.set i a).get d j = t.get d j := by
  simp [Table.get_set, h]

/-- Beyond the table every read gives the default. -/
theorem Table.get_of_le (t : Table α n) (d : α) {i : Nat} (h : n ≤ i) : t.get d i = d := by
  have := t.size
  simp [Table.get, List.getD_eq_getElem?_getD, List.getElem?_eq_none (show t.rows.length ≤ i by omega)]

/-- Writing back what a record holds changes nothing. -/
@[simp] theorem Table.set_get (t : Table α n) (d : α) (i : Nat) : t.set i (t.get d i) = t := by
  apply Table.ext_rows
  have := t.size
  by_cases h : i < t.rows.length
  · simp [Table.get, List.getD_eq_getElem?_getD, h]
  · simp [Table.set, List.set_eq_of_length_le (show t.rows.length ≤ i by omega)]

/-- A later write of the same record wins. -/
@[simp] theorem Table.set_set (t : Table α n) (i : Nat) (a b : α) : (t.set i a).set i b = t.set i b := by
  apply Table.ext_rows; simp

theorem getElem?_mapFrom (f : Nat → α → β) (k : Nat) (l : List α) (i : Nat) :
    (mapFrom f k l)[i]? = (l[i]?).map (f (k + i)) := by
  induction l generalizing k i with
  | nil => simp [mapFrom]
  | cons a as ih =>
    cases i with
    | zero => simp [mapFrom]
    | succ i => simp only [mapFrom, List.getElem?_cons_succ, ih]; congr 2; omega

/-- Record `i` of a mapped table. -/
theorem Table.get_map (t : Table α n) (f : α → β) (d : α) (e : β) {i : Nat} (h : i < n) :
    (t.map f).get e i = f (t.get d i) := by
  have hs := t.size
  simp [Table.get, List.getD_eq_getElem?_getD, show i < t.rows.length by omega]

/-- Record `i` of a table mapped with its numbers. -/
theorem Table.get_mapIdx (t : Table α n) (f : Nat → α → β) (d : α) (e : β) {i : Nat} (h : i < n) :
    (t.mapIdx f).get e i = f i (t.get d i) := by
  have hs := t.size
  simp [Table.get, List.getD_eq_getElem?_getD, getElem?_mapFrom, show i < t.rows.length by omega]

theorem mem_indicesFrom (p : α → Bool) (k : Nat) (l : List α) (i : Nat) :
    i ∈ indicesFrom p k l ↔ ∃ j a, l[j]? = some a ∧ i = k + j ∧ p a = true := by
  induction l generalizing k with
  | nil => simp [indicesFrom]
  | cons a as ih =>
    have step : (∃ j b, (a :: as)[j]? = some b ∧ i = k + j ∧ p b = true) ↔
        (i = k ∧ p a = true) ∨ ∃ j b, as[j]? = some b ∧ i = k + 1 + j ∧ p b = true := by
      constructor
      · rintro ⟨j, b, hj, hi, hb⟩
        cases j with
        | zero => simp at hj; subst hj; exact .inl ⟨by omega, hb⟩
        | succ j => exact .inr ⟨j, b, by simpa using hj, by omega, hb⟩
      · rintro (⟨hi, hb⟩ | ⟨j, b, hj, hi, hb⟩)
        · exact ⟨0, a, rfl, by omega, hb⟩
        · exact ⟨j + 1, b, by simpa using hj, by omega, hb⟩
    rw [step, indicesFrom]
    by_cases h : p a = true <;> simp [h, ih]

/-- The numbers a test picks out of a table are those of the records that pass it. -/
theorem Table.mem_indices (t : Table α n) (p : α → Bool) (d : α) (i : Nat) :
    i ∈ t.indices p ↔ i < n ∧ p (t.get d i) = true := by
  have hs := t.size
  unfold Table.indices
  rw [mem_indicesFrom]
  constructor
  · rintro ⟨j, a, hj, hi, ha⟩
    obtain rfl : i = j := by omega
    have hlt : i < t.rows.length := by
      by_contra hc
      simp [List.getElem?_eq_none (show t.rows.length ≤ i by omega)] at hj
    exact ⟨by omega, by simpa [Table.get, List.getD_eq_getElem?_getD, hj] using ha⟩
  · rintro ⟨hlt, ha⟩
    refine ⟨i, t.rows[i]'(by omega), by simp [show i < t.rows.length by omega], by omega, ?_⟩
    simpa [Table.get, List.getD_eq_getElem?_getD, show i < t.rows.length by omega] using ha

end Sys2Proof
end

