-- ==== Sys2Proof/Laws/Plant.lean ====
section
/-! SUPPORT. What the operations on the channel tables can do, said once: each is made of a few moves, so a property that every
move keeps is kept by requests, releases with their cascades, faults, grants, the forced release and a slot decision. -/

namespace Sys2Proof.Machine

/-! ## Records after the moves -/

@[simp] theorem Plant.ch_setCh_self (p : Plant) {c : Nat} (x : Channel) (h : c < 32) : (p.setCh c x).ch c = x := by
  simp [Plant.ch, Plant.setCh, h]

theorem Plant.ch_setCh_ne (p : Plant) {c d : Nat} (x : Channel) (h : c ≠ d) : (p.setCh c x).ch d = p.ch d := by
  simp [Plant.ch, Plant.setCh, Table.get_set_ne _ _ _ h]

/-- A channel that is defined, or holds any other value than the factory contents, has a number below 32. -/
theorem Plant.lt_of_ch {p : Plant} {c : Nat} (h : p.ch c ≠ {}) : c < 32 := by
  by_contra hc
  exact h (Table.get_of_le _ _ (by omega))

theorem Plant.lt_of_defined {p : Plant} {c : Nat} (h : (p.ch c).defined = true) : c < 32 := by
  apply Plant.lt_of_ch (p := p)
  intro e
  rw [e] at h
  simp at h

theorem Channel.defined_of_active {x : Channel} (h : x.active = true) : x.defined = true := by
  simp only [Channel.active, Bool.and_eq_true] at h
  exact h.1

@[simp] theorem Plant.ch_leaveOrder (p : Plant) (c d : Nat) : (p.leaveOrder c).ch d = p.ch d := rfl
@[simp] theorem Plant.ch_joinOrder (p : Plant) (c d : Nat) : (p.joinOrder c).ch d = p.ch d := rfl
@[simp] theorem Plant.ch_notice (p : Plant) (n : Notice) (d : Nat) : (p.notice n).ch d = p.ch d := rfl
@[simp] theorem Plant.ch_setRec (p : Plant) (r : Nat) (x : ExerciseRecord) (d : Nat) : (p.setRec r x).ch d = p.ch d := rfl
@[simp] theorem Plant.ch_mapBound (p : Plant) (c : Nat) (f : ExerciseRecord → ExerciseRecord) (d : Nat) :
    (p.mapBound c f).ch d = p.ch d := rfl

theorem Plant.ch_mapCh (p : Plant) (f : Nat → Channel → Channel) {c : Nat} (h : c < 32) :
    (p.mapCh f).ch c = f c (p.ch c) := by
  exact Table.get_mapIdx _ _ _ _ h

/-! ## The moves -/

/-- The first part of a release (R44): the record out of service, off the grant order list, counted. -/
def Plant.retire (c : Nat) (p : Plant) : Plant :=
  { (p.setCh c (p.ch c).released).leaveOrder c with released := p.released + 1 }

/-- The run timer of a channel's exercise record stops (R160). -/
def Plant.stopRunTimer (c : Nat) (p : Plant) : Plant := p.mapBound c (fun e => { e with running := false })

/-- The first part of a fault (R47): the record faulted, off the grant order list. -/
def Plant.strike (c : Nat) (p : Plant) : Plant := (p.setCh c (p.ch c).faulted).leaveOrder c

/-- The first part of a grant to a WAITING channel (R41): STARTING, at the end of the grant order list. -/
def Plant.startUp (c : Nat) (p : Plant) : Plant :=
  (p.setCh c { p.ch c with
      state := .starting, applied := (p.ch c).lminLevel, timer := timerOf (p.ch c).defn.startTime,
      minOnExpired := false }).joinOrder c

/-- The first part of a grant to a STOPPING channel (R45). -/
def Plant.takeBack (c : Nat) (p : Plant) : Plant := (p.setCh c { p.ch c with applied := (p.ch c).lminLevel }).joinOrder c

/-- An entry to RUNNING (R43, R160). -/
def Plant.toRunning (c : Nat) (p : Plant) : Plant :=
  (p.setCh c
    { p.ch c with
      state := .running, timer := timerOf (p.ch c).defn.minOn, minOnExpired := decide ((p.ch c).defn.minOn = 0),
      cleanRun := some cleanRunTime }).mapBound c (fun e => { e with runTime := 0, running := true })

theorem Plant.releaseTree_succ (k c : Nat) (p : Plant) :
    p.releaseTree (k + 1) c =
      if (p.ch c).active then
        (if (p.ch c).state = .running then
          (((p.retire c).stopRunTimer c).dependents c).foldl (fun q d => q.releaseTree k d) ((p.retire c).stopRunTimer c)
        else p.retire c).interrupt .release c
      else p := by
  simp only [Plant.releaseTree, Plant.retire, Plant.stopRunTimer]
  split <;> rfl

/-! ## Properties that releases keep -/

/-- A property that every move of a release keeps. -/
structure Plant.KeptByReleases (mode : PartMode) (P : Plant → Prop) : Prop where
  retire : ∀ p c, P p → (p.ch c).active = true → P (p.retire c)
  stopRunTimer : ∀ p c, P p → P (p.stopRunTimer c)
  interrupt : ∀ p cause c, P p → P (p.interrupt cause c)
  formRequests : ∀ p, P p → P (p.formRequests mode)

/-- What each step of a fold keeps, the fold keeps. -/
theorem foldl_keeps {α β : Type} {P : α → Prop} {f : α → β → α} (l : List β) (h : ∀ a, ∀ b ∈ l, P a → P (f a b)) (a : α)
    (ha : P a) : P (l.foldl f a) := by
  induction l generalizing a with
  | nil => exact ha
  | cons b bs ih =>
    exact ih (fun a c hc => h a c (List.mem_cons_of_mem _ hc)) _ (h a b (List.mem_cons_self ..) ha)

namespace Plant.KeptByReleases

variable {mode : PartMode} {P : Plant → Prop}

/-- A release with its cascade keeps what its moves keep (R44, R51). -/
theorem releaseTree (h : Plant.KeptByReleases mode P) (k c : Nat) (p : Plant) (hp : P p) : P (p.releaseTree k c) := by
  induction k generalizing c p with
  | zero => exact hp
  | succ k ih =>
    rw [Plant.releaseTree_succ]
    split
    · rename_i ha
      apply h.interrupt
      split
      · exact foldl_keeps _ (fun q d _ hq => ih d q hq) _ (h.stopRunTimer _ _ (h.retire _ _ hp ha))
      · exact h.retire _ _ hp ha
    · exact hp

/-- Forming the requests again, with the channels' answers, keeps it (R32, R40, R43). -/
theorem reform (h : Plant.KeptByReleases mode P) (p : Plant) (hp : P p) : P (p.reform mode) := by
  unfold Plant.reform
  generalize 33 = k
  induction k generalizing p with
  | zero => exact h.formRequests _ hp
  | succ k ih =>
    simp only [Plant.reformLoop]
    split
    · exact h.formRequests _ hp
    · exact ih _ (foldl_keeps _ (fun q d _ hq => h.releaseTree 33 d q hq) _ (h.formRequests _ hp))

theorem reformAfter (h : Plant.KeptByReleases mode P) (before p : Plant) (hp : P p) : P (Plant.reformAfter mode before p) := by
  unfold Plant.reformAfter
  split
  · exact hp
  · exact h.reform p hp

/-- A release keeps it (R44, R52). -/
theorem release (h : Plant.KeptByReleases mode P) (c : Nat) (p : Plant) (hp : P p) : P (p.release mode c) :=
  h.reformAfter _ _ (h.releaseTree 33 c p hp)

theorem releaseEach (h : Plant.KeptByReleases mode P) (cs : List Nat) (p : Plant) (hp : P p) : P (p.releaseEach mode cs) :=
  foldl_keeps _ (fun q c _ hq => h.release c q hq) p hp

/-- The second step of the forced release keeps it (R64, R80). -/
theorem shed (h : Plant.KeptByReleases mode P) (ceiling k : Nat) (p : Plant) (hp : P p) : P (p.shed mode ceiling k) := by
  induction k generalizing p with
  | zero => exact hp
  | succ k ih =>
    simp only [Plant.shed]
    split
    · split
      · exact hp
      · exact ih _ (h.release _ p hp)
    · exact hp

/-- The forced release keeps it (R64). -/
theorem forcedRelease (h : Plant.KeptByReleases mode P) (ceiling threshold : Nat) (p : Plant) (hp : P p) :
    P (p.forcedRelease mode ceiling threshold) :=
  h.shed _ _ _ (h.releaseEach _ _ hp)

end Plant.KeptByReleases

/-! ## Properties that faults and grants keep as well -/

/-- A property that every move of a release, a fault and a grant keeps. -/
structure Plant.KeptByGrants (mode : PartMode) (P : Plant → Prop) : Prop extends Plant.KeptByReleases mode P where
  strike : ∀ p c, P p → (p.ch c).defined = true → (p.ch c).state.drawing = true → P (p.strike c)
  notice : ∀ p n, P p → P (p.notice n)
  startUp : ∀ p c, P p → (p.ch c).defined = true → (p.ch c).state = .waiting → P (p.startUp c)
  takeBack : ∀ p c, P p → (p.ch c).defined = true → (p.ch c).state = .stopping → P (p.takeBack c)
  toRunning : ∀ p c, P p → P (p.toRunning c)

theorem Plant.fault_eq (mode : PartMode) (c : Nat) (p : Plant) :
    p.fault mode c =
      if (p.ch c).defined ∧ (p.ch c).state.drawing = true then
        let q := if (p.ch c).state = .running then
            (((p.strike c).stopRunTimer c).dependents c).foldl (fun q d => q.releaseTree 33 d) ((p.strike c).stopRunTimer c)
          else p.strike c
        let q := q.notice (.channelFaulted c (p.ch c).state (p.ch c).faulted.faults)
        Plant.reformAfter mode p (if (p.ch c).state.inService then q.interrupt .fault c else q)
      else p := rfl

namespace Plant.KeptByGrants

variable {mode : PartMode} {P : Plant → Prop}

/-- A fault with its cascade keeps what its moves keep (R47). -/
theorem fault (h : Plant.KeptByGrants mode P) (c : Nat) (p : Plant) (hp : P p) : P (p.fault mode c) := by
  rw [Plant.fault_eq]
  split
  · rename_i hc
    have h1 : P (if (p.ch c).state = .running then
            (((p.strike c).stopRunTimer c).dependents c).foldl (fun q d => q.releaseTree 33 d) ((p.strike c).stopRunTimer c)
          else p.strike c) := by
      split
      · exact foldl_keeps _ (fun q d _ hq => h.releaseTree 33 d q hq) _ (h.stopRunTimer _ _ (h.strike _ _ hp hc.1 hc.2))
      · exact h.strike _ _ hp hc.1 hc.2
    apply h.reformAfter
    split
    · exact h.interrupt _ _ _ (h.notice _ _ h1)
    · exact h.notice _ _ h1
  · exact hp

/-- An entry to RUNNING keeps it (R43). -/
theorem enterRunning (h : Plant.KeptByGrants mode P) (c : Nat) (p : Plant) (hp : P p) : P (p.enterRunning mode c) := by
  have e : p.enterRunning mode c =
      if (p.ch c).defn.minOn = 0 ∧ (p.ch c).combined = false then (p.toRunning c).release mode c else p.toRunning c := rfl
  rw [e]
  split
  · exact h.release _ _ (h.toRunning _ _ hp)
  · exact h.toRunning _ _ hp

/-- A grant keeps it (R52). -/
theorem grant (h : Plant.KeptByGrants mode P) (c : Nat) (p : Plant) (hp : P p) : P (p.grant mode c) := by
  unfold Plant.grant
  simp only
  split
  · rename_i hd
    split <;> rename_i hs
    · have e : p.startChannel mode c =
          if (p.ch c).sense then (p.startUp c).fault mode c
          else if (p.ch c).defn.startTime = 0 then (p.startUp c).enterRunning mode c else p.startUp c := rfl
      rw [e]
      have h1 := h.startUp _ _ hp hd hs
      split
      · exact h.fault _ _ h1
      · split
        · exact h.enterRunning _ _ h1
        · exact h1
    · split
      · exact h.enterRunning _ _ (h.takeBack _ _ hp hd hs)
      · exact hp
    all_goals exact hp
  · exact hp

/-- The prompt grant of one channel keeps it (R112). -/
theorem offer (h : Plant.KeptByGrants mode P) (c : Nat) (g : PromptGrants) (hp : P g.decision.plant) :
    P (g.offer mode c).decision.plant := by
  unfold PromptGrants.offer
  simp only
  split
  · exact hp
  · split
    · split
      · exact h.grant _ _ hp
      · simp only [Decision.refuseCredit, Decision.refusePeak, Decision.setGrp]
        split
        · exact hp
        · split <;> exact hp
    · exact hp

end Plant.KeptByGrants

/-! ## What no release, fault or grant touches -/

/-- Two records agree on the definition, the own and prompt requests, the ambient inhibit, the driving value and target, and the
fault-sense level. -/
structure Channel.Steady (x y : Channel) : Prop where
  defined : y.defined = x.defined
  defn : y.defn = x.defn
  own : y.own = x.own
  prompt : y.prompt = x.prompt
  inhibit : y.inhibit = x.inhibit
  fresh : y.fresh = x.fresh
  driving : y.driving = x.driving
  target : y.target = x.target
  sense : y.sense = x.sense

theorem Channel.Steady.refl (x : Channel) : Channel.Steady x x := ⟨rfl, rfl, rfl, rfl, rfl, rfl, rfl, rfl, rfl⟩

theorem Channel.Steady.trans {x y z : Channel} (h : Channel.Steady x y) (k : Channel.Steady y z) : Channel.Steady x z :=
  ⟨k.1.trans h.1, k.2.trans h.2, k.3.trans h.3, k.4.trans h.4, k.5.trans h.5, k.6.trans h.6, k.7.trans h.7, k.8.trans h.8,
    k.9.trans h.9⟩

theorem Channel.steady_released (x : Channel) : Channel.Steady x x.released := by
  unfold Channel.released Channel.rest
  simp only
  split <;> exact ⟨rfl, rfl, rfl, rfl, rfl, rfl, rfl, rfl, rfl⟩

/-- Two channel tables agree on what no release, fault or grant touches: each record's steady fields, the ambient value, status
and timer, the checkpoint timer and the updates not yet taken. -/
structure Plant.Steady (p q : Plant) : Prop where
  ch : ∀ c, Channel.Steady (p.ch c) (q.ch c)
  ambientValue : q.chan.ambientValue = p.chan.ambientValue
  ambientStatus : q.chan.ambientStatus = p.chan.ambientStatus
  ambientTimer : q.chan.ambientTimer = p.chan.ambientTimer
  checkpointTime : q.chan.checkpointTime = p.chan.checkpointTime
  updates : q.chan.updates = p.chan.updates

theorem Plant.Steady.refl (p : Plant) : Plant.Steady p p := ⟨fun _ => .refl _, rfl, rfl, rfl, rfl, rfl⟩

theorem Plant.Steady.trans {p q r : Plant} (h : Plant.Steady p q) (k : Plant.Steady q r) : Plant.Steady p r :=
  ⟨fun c => (h.ch c).trans (k.ch c), k.2.trans h.2, k.3.trans h.3, k.4.trans h.4, k.5.trans h.5, k.6.trans h.6⟩

/-- One record replaced by a steady one. -/
theorem Plant.steady_setCh (p : Plant) (c : Nat) {x : Channel} (h : Channel.Steady (p.ch c) x) :
    Plant.Steady p (p.setCh c x) := by
  refine ⟨fun d => ?_, rfl, rfl, rfl, rfl, rfl⟩
  by_cases hd : c = d
  · subst hd
    by_cases hc : c < 32
    · rw [Plant.ch_setCh_self _ _ hc]; exact h
    · have : (p.setCh c x).ch c = p.ch c := by
        simp [Plant.ch, Plant.setCh, Table.get_of_le _ _ (show 32 ≤ c by omega)]
      rw [this]; exact .refl _
  · rw [Plant.ch_setCh_ne _ _ hd]; exact .refl _

/-- Every record replaced by a steady one. -/
theorem Plant.steady_mapCh (p : Plant) (f : Nat → Channel → Channel) (h : ∀ c x, Channel.Steady x (f c x)) :
    Plant.Steady p (p.mapCh f) := by
  refine ⟨fun d => ?_, rfl, rfl, rfl, rfl, rfl⟩
  by_cases hd : d < 32
  · rw [Plant.ch_mapCh _ _ hd]; exact h _ _
  · have : (p.mapCh f).ch d = p.ch d := by
      simp [Plant.ch, Table.get_of_le _ _ (show 32 ≤ d by omega)]
    rw [this]; exact .refl _

theorem Plant.steady_interrupt (p : Plant) (cause : PostponedCause) (c : Nat) : Plant.Steady p (p.interrupt cause c) := by
  unfold Plant.interrupt
  split
  · have h : ∀ q, Plant.Steady p q → (∀ d, q.ch d = p.ch d) → Plant.Steady p (q.setCh c { p.ch c with exercise := false }) := by
      intro q hq he
      refine hq.trans (Plant.steady_setCh q c ?_)
      rw [he c]
      exact ⟨rfl, rfl, rfl, rfl, rfl, rfl, rfl, rfl, rfl⟩
    have hr : ∀ (q : Plant) (r : Nat), (Plant.Steady p q ∧ ∀ d, q.ch d = p.ch d) →
        Plant.Steady p (if (q.exRec r).bound = some c then
          (q.setRec r { q.exRec r with retry := some retryTime }).notice
            (.exercisePostponed c cause ((q.exRec r).runTime / 1000))
        else q) ∧ ∀ d, (if (q.exRec r).bound = some c then
          (q.setRec r { q.exRec r with retry := some retryTime }).notice
            (.exercisePostponed c cause ((q.exRec r).runTime / 1000))
        else q).ch d = p.ch d := by
      intro q r hq
      split
      · exact ⟨⟨hq.1.1, hq.1.2, hq.1.3, hq.1.4, hq.1.5, hq.1.6⟩, hq.2⟩
      · exact hq
    have h2 := hr _ 1 (hr p 0 ⟨.refl p, fun _ => rfl⟩)
    exact h _ h2.1 h2.2
  · exact .refl p

/-- No release, fault or grant touches a record's definition, its own and prompt requests, its inhibit, its driving value and target or
its fault-sense level, nor the ambient figures, the checkpoint timer or the updates that wait. -/
theorem Plant.kept_steady (mode : PartMode) (p : Plant) : Plant.KeptByGrants mode (Plant.Steady p) where
  retire q c h _ :=
    let k := Plant.steady_setCh q c (Channel.steady_released (q.ch c))
    h.trans ⟨k.1, k.2, k.3, k.4, k.5, k.6⟩
  stopRunTimer _ _ h := ⟨h.1, h.2, h.3, h.4, h.5, h.6⟩
  interrupt q cause c h := h.trans (Plant.steady_interrupt q cause c)
  formRequests q h := h.trans (Plant.steady_mapCh q _ (fun _ _ => ⟨rfl, rfl, rfl, rfl, rfl, rfl, rfl, rfl, rfl⟩))
  strike q c h _ _ :=
    let k := Plant.steady_setCh q c (x := (q.ch c).faulted) ⟨rfl, rfl, rfl, rfl, rfl, rfl, rfl, rfl, rfl⟩
    h.trans ⟨k.1, k.2, k.3, k.4, k.5, k.6⟩
  notice _ _ h := ⟨h.1, h.2, h.3, h.4, h.5, h.6⟩
  startUp q c h _ _ :=
    let k := Plant.steady_setCh q c
      (x := { q.ch c with
        state := .starting, applied := (q.ch c).lminLevel, timer := timerOf (q.ch c).defn.startTime, minOnExpired := false })
      ⟨rfl, rfl, rfl, rfl, rfl, rfl, rfl, rfl, rfl⟩
    h.trans ⟨k.1, k.2, k.3, k.4, k.5, k.6⟩
  takeBack q c h _ _ :=
    let k := Plant.steady_setCh q c (x := { q.ch c with applied := (q.ch c).lminLevel })
      ⟨rfl, rfl, rfl, rfl, rfl, rfl, rfl, rfl, rfl⟩
    h.trans ⟨k.1, k.2, k.3, k.4, k.5, k.6⟩
  toRunning q c h :=
    let k := Plant.steady_setCh q c
      (x := { q.ch c with
        state := .running, timer := timerOf (q.ch c).defn.minOn, minOnExpired := decide ((q.ch c).defn.minOn = 0),
        cleanRun := some cleanRunTime })
      ⟨rfl, rfl, rfl, rfl, rfl, rfl, rfl, rfl, rfl⟩
    h.trans ⟨k.1, k.2, k.3, k.4, k.5, k.6⟩

/-- A release leaves every record's steady fields. -/
theorem Plant.steady_release (mode : PartMode) (c : Nat) (p : Plant) : Plant.Steady p (p.release mode c) :=
  (Plant.kept_steady mode p).release c p (.refl p)

/-- Forming the requests leaves every record's steady fields. -/
theorem Plant.steady_reform (mode : PartMode) (p : Plant) : Plant.Steady p (p.reform mode) :=
  (Plant.kept_steady mode p).reform p (.refl p)

/-- The forced release leaves every record's steady fields. -/
theorem Plant.steady_forcedRelease (mode : PartMode) (ceiling threshold : Nat) (p : Plant) :
    Plant.Steady p (p.forcedRelease mode ceiling threshold) :=
  (Plant.kept_steady mode p).forcedRelease ceiling threshold p (.refl p)

/-- A fault leaves every record's steady fields. -/
theorem Plant.steady_fault (mode : PartMode) (c : Nat) (p : Plant) : Plant.Steady p (p.fault mode c) :=
  (Plant.kept_steady mode p).fault c p (.refl p)

/-- A grant leaves every record's steady fields. -/
theorem Plant.steady_grant (mode : PartMode) (c : Nat) (p : Plant) : Plant.Steady p (p.grant mode c) :=
  (Plant.kept_steady mode p).grant c p (.refl p)

end Sys2Proof.Machine
end

