-- ==== Sys2Proof/Laws/Decision.lean ====
section
/-! SUPPORT. What a slot decision can do, said once: it is made of a few moves, so a property that every move keeps is kept by every
stage. -/

namespace Sys2Proof.Machine

/-! ## The moves -/

/-- The displacements counted (R78). -/
def Decision.countDisplaced (n : Nat) (d : Decision) : Decision :=
  { d with alloc := { d.alloc with
      displacementsLeft := d.alloc.displacementsLeft - n
      lastDisplacements := d.alloc.lastDisplacements + n } }

/-- A displacement refused (R78). -/
def Decision.countRefused (d : Decision) : Decision :=
  { d with alloc := { d.alloc with displacementRefused := countUp 65535 d.alloc.displacementRefused } }

/-- A level's cursor after its visit (R75). -/
def Decision.moveCursor (level c : Nat) (d : Decision) : Decision :=
  { d with alloc := { d.alloc with cursors := d.alloc.cursors.set level ((c + 1) % 32) } }

/-- A property of a decision that every move of stages 5 to 9 keeps. A grant is made of a channel that fits (R72), at stage 5
without the credit test (R73). -/
structure Decision.Kept (mode : PartMode) (Q : Decision → Prop) : Prop where
  rotaGrant : ∀ d c k, Q d → listingStands k (d.plant.ch c) = true →
    d.plant.eligible d.alloc.threshold (d.plant.ch c) = true → d.ceilingOk 0 k (d.plant.ch c) = true →
    d.peakOk 0 k (d.plant.ch c) = true → Q (d.grant mode false c k)
  grant : ∀ d c k, Q d → d.fits k (d.plant.ch c) = true → Q (d.grant mode true c k)
  release : ∀ d c, Q d → Q (d.release mode c)
  refuseCredit : ∀ d g, Q d → Q (d.refuseCredit g)
  refusePeak : ∀ d g, Q d → Q (d.refusePeak g)
  countDisplaced : ∀ d n, Q d → Q (d.countDisplaced n)
  countRefused : ∀ d, Q d → Q d.countRefused
  moveCursor : ∀ d level c, Q d → Q (d.moveCursor level c)
  raise : ∀ d c, Q d → Q (d.raise c)

namespace Decision.Kept

variable {mode : PartMode} {Q : Decision → Prop}

/-- Stage 5 keeps it (R73). -/
theorem atRota (h : Decision.Kept mode Q) (d : Decision) (hd : Q d) : Q (d.rotaGrant mode) := by
  unfold Decision.rotaGrant
  split
  · exact hd
  · split
    · exact hd
    · simp only
      split
      · rename_i ht
        simp only [Bool.and_eq_true] at ht
        exact h.rotaGrant _ _ _ hd ht.1.1.1 ht.1.1.2 ht.1.2 ht.2
      · exact hd

/-- Stage 7 keeps it (R78). -/
theorem displace (h : Decision.Kept mode Q) (w c : Nat) (k : Listing) (d : Decision) (hd : Q d) : Q (d.displace mode w c k) := by
  have e : d.displace mode w c k =
      match d.chooseVictims k (d.plant.ch c) d.alloc.displacementsLeft []
          (d.victims w c (d.peakOk 0 k (d.plant.ch c))) with
      | some taken =>
        let d := (taken.foldl (fun d v => d.release mode v) d).countDisplaced taken.length
        if d.fits k (d.plant.ch c) then d.grant mode true c k else d
      | none => if d.victims w c (d.peakOk 0 k (d.plant.ch c)) = [] then d else d.countRefused := rfl
  rw [e]
  split
  · rename_i taken _
    have h1 := h.countDisplaced _ taken.length
      (foldl_keeps (P := Q) (f := fun d v => d.release mode v) taken (fun d v _ hq => h.release d v hq) d hd)
    simp only
    split
    · rename_i hf
      exact h.grant _ _ _ h1 hf
    · exact h1
  · split
    · exact hd
    · exact h.countRefused d hd

/-- What is left of a channel that was not granted keeps it (R74). -/
theorem leave (h : Decision.Kept mode Q) (c : Nat) (k : Listing) (d : Decision) (hd : Q d) : Q (d.leave mode c k) := by
  cases k
  · exact hd
  · exact h.release _ _ hd
  · exact hd

/-- The visit of one channel keeps it (R74). -/
theorem visit (h : Decision.Kept mode Q) (w : Nat) (e : Nat × Listing) (d : Decision) (hd : Q d) : Q (d.visit mode w e) := by
  unfold Decision.visit
  simp only
  split
  · rename_i h1
    split
    · rename_i h2
      split
      · rename_i h3
        apply h.grant _ _ _ hd
        simp only [Bool.and_eq_true] at h1 h3
        simp [Decision.fits, h1.1, h1.2, h2, h3.1, h3.2]
      · have h4 : Q (if 0 < w then d.displace mode w e.1 e.2 else d) := by
          split
          · exact h.displace _ _ _ _ hd
          · exact hd
        generalize (if 0 < w then d.displace mode w e.1 e.2 else d) = d' at h4 ⊢
        split
        · exact h4
        · apply h.leave
          split
          · exact h4
          · exact h.refusePeak _ _ h4
    · exact h.leave _ _ _ (h.refuseCredit _ _ hd)
  · exact hd

/-- The visit of one level keeps it (R74, R75). -/
theorem visitLevel (h : Decision.Kept mode Q) (w level : Nat) (d : Decision) (hd : Q d) : Q (d.visitLevel mode w level) := by
  unfold Decision.visitLevel
  simp only
  have h1 := foldl_keeps (P := Q) (f := fun d e => d.visit mode w e)
    (fromCursor (d.alloc.cursors.get 0 level) (d.listed.filter (fun e =>
      decide ((d.plant.ch e.1).defn.priority = level) && !d.granted.contains e.1)))
    (fun d e _ hq => h.visit w e d hq) d hd
  split
  · exact h1
  · exact h.moveCursor _ level _ h1

/-- Stage 6 keeps it (R74, R76). -/
theorem levels (h : Decision.Kept mode Q) (w : Nat) (d : Decision) (hd : Q d) : Q (d.levels mode w) := by
  unfold Decision.levels Decision.dropRenewals
  exact foldl_keeps (P := Q) (f := fun d c => d.release mode c) _ (fun d c _ hq => h.release d c hq) _
    (foldl_keeps (P := Q) (f := fun d level => d.visitLevel mode w level) _ (fun d l _ hq => h.visitLevel w l d hq) d hd)

/-- Stage 8 keeps it (R79). -/
theorem raises (h : Decision.Kept mode Q) (d : Decision) (hd : Q d) : Q d.raises :=
  foldl_keeps (P := Q) (f := fun d c => d.raise c) _ (fun d c _ hq => h.raise d c hq) d hd

/-- Stage 9 is a run of releases (R80). -/
theorem shed (h : Decision.Kept mode Q) (ceiling k : Nat) (d : Decision) (hd : Q d) :
    Q { d with plant := d.plant.shed mode ceiling k } := by
  induction k generalizing d with
  | zero => exact hd
  | succ k ih =>
    simp only [Plant.shed]
    split
    · split
      · exact hd
      · rename_i c _ _
        exact ih (d.release mode c) (h.release d c hd)
    · exact hd

/-- Stage 9 keeps it (R80). -/
theorem close (h : Decision.Kept mode Q) (d : Decision) (hd : Q d) : Q (d.close mode) := by
  unfold Decision.close
  refine h.shed _ _ _ (foldl_keeps (P := Q) (f := fun d c => if d.orphaned c then d.release mode c else d) _ ?_ d hd)
  intro d c _ hq
  split
  · exact h.release _ _ hq
  · exact hq

/-- Stages 5 to 9 keep it. -/
theorem stages (h : Decision.Kept mode Q) (w : Nat) (d : Decision) (hd : Q d) :
    Q ((((d.rotaGrant mode).levels mode w).raises).close mode) :=
  h.close _ (h.raises _ (h.levels w _ (h.atRota _ hd)))

end Decision.Kept

/-! ## Properties of the channel tables alone -/

@[simp] theorem Decision.plant_setGrp (d : Decision) (g : Nat) (x : ShareGroup) : (d.setGrp g x).plant = d.plant := rfl

/-- The held charges leave the channel tables (R70). -/
@[simp] theorem Decision.plant_chargeHeld (d : Decision) : d.chargeHeld.plant = d.plant := by
  unfold Decision.chargeHeld
  refine foldl_keeps (P := fun e : Decision => e.plant = d.plant) _ ?_ d rfl
  intro e c _ h
  exact h

theorem Decision.plant_grant (mode : PartMode) (charged : Bool) (c : Nat) (k : Listing) (d : Decision) :
    (d.grant mode charged c k).plant = d.plant.grant mode c := by
  unfold Decision.grant
  cases charged <;> rfl

theorem Decision.plant_raise (c : Nat) (d : Decision) :
    (d.raise c).plant = d.plant ∨
      (d.plant.ch c).state = .running ∧ ∃ level, (d.raise c).plant = d.plant.setCh c { d.plant.ch c with applied := level } := by
  unfold Decision.raise
  simp only
  split
  · rename_i h
    exact .inr ⟨h.2.1, _, rfl⟩
  · exact .inl rfl

/-- What releases, faults, grants and rises of a RUNNING channel's level keep of the channel tables, a slot decision keeps. -/
theorem Decision.make_keeps {mode : PartMode} {P : Plant → Prop} (h : Plant.KeptByGrants mode P)
    (hr : ∀ p c level, P p → (p.ch c).state = .running → P (p.setCh c { p.ch c with applied := level })) (w : Nat)
    (alloc : Allocator) (plant : Plant) (hp : P plant) : P (Decision.make mode w alloc plant).plant := by
  have k : Decision.Kept mode (fun d => P d.plant) :=
    { rotaGrant := fun d c k hd _ _ _ _ => by rw [Decision.plant_grant]; exact h.grant c _ hd
      grant := fun d c k hd _ => by rw [Decision.plant_grant]; exact h.grant c _ hd
      release := fun d c hd => h.release c _ hd
      refuseCredit := fun _ _ hd => hd
      refusePeak := fun _ _ hd => hd
      countDisplaced := fun _ _ hd => hd
      countRefused := fun _ hd => hd
      moveCursor := fun _ _ _ hd => hd
      raise := fun d c hd => by
        rcases Decision.plant_raise c d with e | ⟨hs, level, e⟩
        · rw [e]; exact hd
        · rw [e]; exact hr _ _ _ hd hs }
  unfold Decision.make
  simp only
  refine k.stages w _ ?_
  show P (Decision.chargeHeld _).plant
  rw [Decision.plant_chargeHeld]
  exact hp

/-- A slot decision leaves every record's steady fields and the ambient figures. -/
theorem Decision.steady_make (mode : PartMode) (w : Nat) (alloc : Allocator) (plant : Plant) :
    Plant.Steady plant (Decision.make mode w alloc plant).plant :=
  Decision.make_keeps (Plant.kept_steady mode plant)
    (fun p c _ h _ => h.trans (Plant.steady_setCh p c ⟨rfl, rfl, rfl, rfl, rfl, rfl, rfl, rfl, rfl⟩)) w alloc plant (.refl _)

end Sys2Proof.Machine
end

