-- ==== Sys2Proof/Laws/Formed.lean ====
section
/-! SUPPORT. The forming of requests (R31, R32): the rounds of combinedRequests rise from all false and end at a fixed point, so every
drawn request is formed from its dependents' new combined requests. -/

namespace Sys2Proof.Machine

/-- Entry by entry, what is true in `a` is true in `b`. -/
abbrev Below (a b : List Bool) : Prop := List.Forall₂ (fun x y => x = true → y = true) a b

theorem Below.refl (a : List Bool) : Below a a := by
  induction a with
  | nil => exact .nil
  | cons x xs ih => exact .cons id ih

/-- Going up keeps or raises the number of true entries, and keeps it only where nothing changes. -/
theorem Below.count {a b : List Bool} (h : Below a b) :
    a.count true ≤ b.count true ∧ (a ≠ b → a.count true < b.count true) := by
  induction h with
  | nil => simp
  | @cons x y xs ys hxy _ ih =>
    cases x <;> cases y <;> simp_all <;> omega

/-- A request drawn before is drawn after, where the combined requests went up. -/
theorem any_zip_mono (p : Channel → Bool) (chans : List Channel) {a b : List Bool} (h : Below a b)
    (ha : (chans.zip a).any (fun d => p d.1 && d.2) = true) : (chans.zip b).any (fun d => p d.1 && d.2) = true := by
  induction h generalizing chans with
  | nil => exact ha
  | @cons x y xs ys hxy _ ih =>
    cases chans with
    | nil => simp at ha
    | cons c cs =>
      simp only [List.zip_cons_cons, List.any_cons, Bool.or_eq_true, Bool.and_eq_true] at ha ⊢
      rcases ha with ha | ha
      · exact .inl ⟨ha.1, hxy ha.2⟩
      · exact .inr (ih cs ha)

theorem forall₂_mapFrom {α : Type} {f g : Nat → α → Bool} (h : ∀ k x, f k x = true → g k x = true) (k : Nat) (l : List α) :
    Below (mapFrom f k l) (mapFrom g k l) := by
  induction l generalizing k with
  | nil => exact .nil
  | cons x xs ih => exact .cons (h k x) (ih (k + 1))

/-- A round from more requests gives more requests. -/
theorem combinedRound_mono (mode : PartMode) (chans : List Channel) {a b : List Bool} (h : Below a b) :
    Below (combinedRound mode chans a) (combinedRound mode chans b) := by
  apply forall₂_mapFrom
  intro c x hx
  simp only [Bool.and_eq_true, Bool.or_eq_true] at hx ⊢
  refine ⟨hx.1, ?_⟩
  rcases hx.2 with h1 | h1
  · exact .inl h1
  · refine .inr ?_
    have := any_zip_mono (fun y => y.defined && decide (y.defn.prerequisite = some c)) chans h
      (by simpa [Bool.and_assoc] using h1)
    simpa [Bool.and_assoc] using this

theorem length_combinedRound (mode : PartMode) (chans : List Channel) (b : List Bool) :
    (combinedRound mode chans b).length = chans.length := by simp [combinedRound, length_mapFrom]

/-- Rounds that start below their own next round end at a fixed point, with fuel for every entry that may still turn true. -/
theorem combinedRounds_fixed (mode : PartMode) (chans : List Channel) (k : Nat) (b : List Bool)
    (hb : Below b (combinedRound mode chans b)) (hl : b.length = chans.length)
    (hk : chans.length < b.count true + k) :
    combinedRound mode chans (combinedRounds mode chans k b) = combinedRounds mode chans k b := by
  induction k generalizing b with
  | zero =>
    have := List.count_le_length (a := true) (l := b)
    omega
  | succ k ih =>
    simp only [combinedRounds]
    split
    · assumption
    · rename_i hne
      apply ih
      · exact combinedRound_mono mode chans hb
      · exact length_combinedRound mode chans b
      · have := hb.count.2 (fun e => hne e.symm)
        omega

/-- No request at all lies below any list of the same length. -/
theorem below_false (chans : List Channel) (b : List Bool) (h : b.length = chans.length) :
    Below (chans.map (fun _ => false)) b := by
  induction chans generalizing b with
  | nil => cases b <;> simp_all
  | cons c cs ih =>
    cases b with
    | nil => simp at h
    | cons x xs => exact .cons (by simp) (ih xs (by simpa using h))

/-- The combined requests stand as one more round forms them (R31, R32; log 18). -/
theorem combinedRequests_fixed (mode : PartMode) (chans : List Channel) (h : chans.length ≤ 32) :
    combinedRound mode chans (combinedRequests mode chans) = combinedRequests mode chans := by
  apply combinedRounds_fixed
  · exact below_false _ _ (length_combinedRound _ _ _)
  · simp
  · have : (chans.map (fun _ => false)).count true = 0 := by simp [List.count_eq_zero]
    omega

/-- The combined request of a channel after a forming (R32): defined, not inhibited, in a mode that allows requests, and with a
request of its own or one drawn from its dependents' new combined requests. -/
theorem combinedRequests_get (mode : PartMode) (t : Table Channel 32) (c : Nat) (hc : c < 32) :
    (combinedRequests mode t.rows).getD c false =
      ((t.get {} c).defined && !(t.get {} c).inhibit && !mode.forcesFalse &&
        ((t.get {} c).own || (t.get {} c).prompt || (t.get {} c).exercise ||
          drawnFrom t.rows (combinedRequests mode t.rows) c)) := by
  have hs := t.size
  conv_lhs => rw [← combinedRequests_fixed mode t.rows (by omega)]
  simp only [combinedRound, List.getD_eq_getElem?_getD, getElem?_mapFrom, Table.get, drawnFrom]
  rw [List.getElem?_eq_getElem (by omega)]
  simp

end Sys2Proof.Machine
end

