-- ==== Sys2Proof/Laws/Requests.lean ====
section
/-! SUPPORT. What the shared operations on requests do: the field checks, the taking of a request, the replies, the two ways every
request rule begins, the transmitter's choice, a completion handed on, and what a RESTART taken does to the end of a wind-down. -/

namespace Sys2Proof.Machine

/-! ## Field checks -/

/-- No field is named exactly when every check passes. -/
theorem firstBad_eq_none {l : List (Nat × Bool)} : firstBad l = none ↔ ∀ e ∈ l, e.2 = true := by
  induction l with
  | nil => simp [firstBad]
  | cons a as ih =>
    obtain ⟨i, ok⟩ := a
    cases ok <;> simp [firstBad, ih]

/-- The field named is the first of the list that fails. -/
theorem firstBad_eq_some {l : List (Nat × Bool)} {f : Nat} :
    firstBad l = some f ↔ ∃ before after, l = before ++ (f, false) :: after ∧ ∀ e ∈ before, e.2 = true := by
  induction l with
  | nil => simp [firstBad]
  | cons a as ih =>
    obtain ⟨i, ok⟩ := a
    cases ok
    · simp only [firstBad, Bool.false_eq_true, if_false, Option.some.injEq]
      constructor
      · rintro rfl
        exact ⟨[], as, rfl, by simp⟩
      · rintro ⟨before, after, h, hb⟩
        cases before with
        | nil => simp at h; exact h.1
        | cons b bs =>
          simp only [List.cons_append, List.cons.injEq] at h
          have := hb b (by simp)
          rw [← h.1] at this
          simp at this
    · simp only [firstBad, if_true]
      rw [ih]
      constructor
      · rintro ⟨before, after, rfl, hb⟩
        exact ⟨(i, true) :: before, after, rfl, by simpa using hb⟩
      · rintro ⟨before, after, h, hb⟩
        cases before with
        | nil => simp at h
        | cons b bs =>
          simp only [List.cons_append, List.cons.injEq] at h
          exact ⟨bs, after, h.2, fun e he => hb e (by simp [he])⟩

/-! ## The taking of a request -/

theorem State.Ready.phase {s : State} (h : s.Ready) : s.phase = .operating := h.1

theorem State.Ready.requests {s : State} (h : s.Ready) : s.link.requests = [] := h.2

/-- The taking finds the part operating, with the transmitter as it was. -/
@[simp] theorem State.phase_atTaking (s : State) : s.atTaking.phase = s.phase := by
  unfold State.atTaking State.backInRun; split <;> rfl

@[simp] theorem State.pending_atTaking (s : State) : s.atTaking.pending = s.pending := by
  unfold State.atTaking State.backInRun; split <;> rfl

theorem State.atTaking_of_ne {s : State} (h : s.ctl.mode ≠ .fallback) : s.atTaking = s := by
  simp [State.atTaking, h]

/-- A request taken never finds the part in FALLBACK. -/
theorem State.mode_atTaking (s : State) : s.atTaking.ctl.mode ≠ .fallback := by
  unfold State.atTaking State.backInRun
  split
  · simp
  · assumption

/-- A request that comes to an empty queue is taken at once (R184): out of FALLBACK, at the head, and then the transmitter. -/
theorem State.submit_ready {s : State} (h : s.Ready) (i : Instr) (act : State → State) :
    s.submit i act = (act (s.atTaking.heading i)).pump := by
  have key : ((s.updLink (fun l => { l with requests := [frameOf i] })).endFallback .queuedRequest)
      = s.atTaking.heading i := by
    unfold State.endFallback State.atTaking State.backInRun State.leaveFallback State.heading State.mode
    by_cases hn : s.link.notices.length < 16 <;>
      cases hm : s.ctl.mode <;>
        simp [hm, hn, State.updLink, State.updCtl, State.updAlloc, State.notify, LinkPort.queueNotice, seconds,
          stalenessTime]
  unfold State.submit State.event
  simp only [h.1, h.2, key]

/-- A request that finds others in the queue joins its end, or is counted where the queue holds 4 (R183 step 3). -/
theorem State.submit_waiting {s : State} (hp : s.phase = .operating) {f : Frame} {rest : List Frame}
    (hq : s.link.requests = f :: rest) (i : Instr) (act : State → State) :
    s.submit i act = State.pump
      (if s.link.requests.length < 4 then s.updLink (fun l => { l with requests := l.requests ++ [frameOf i] })
       else s.updLink (fun l => { l with counts := { l.counts with queueFull := countLink l.counts.queueFull } })) := by
  unfold State.submit State.event
  simp only [hp, hq]

/-- A reply formed for the request at the head. -/
theorem State.heading_reply (t : State) (i : Instr) {kind tag : Nat} (hk : (frameOf i).kind = kind)
    (ht : (frameOf i).tag = tag) (code : ResultCode) (content : Content) :
    ((t.heading i).reply kind tag code content).pump = t.answered i code content := by
  subst hk; subst ht; rfl

/-- A configuration request (R185): outside STANDBY refused, then its first failing field, then carried out. -/
theorem State.configure_eq (s : State) (kind tag : Nat) (checks : List (Nat × Bool)) (act : State → State) :
    s.configure kind tag checks act =
      if s.ctl.mode ≠ .standby then s.wrongMode kind tag
      else match firstBad checks with
        | some f => s.badField kind tag f
        | none => act s := by
  unfold State.configure State.mode
  by_cases h : s.ctl.mode = .standby
  · exact (if_pos h).trans (if_neg (not_not_intro h)).symm
  · exact (if_neg h).trans (if_pos h).symm

/-! ## The transmitter's choice (R186) -/

@[simp] theorem State.pump_phase (s : State) : s.pump.phase = s.phase := by unfold State.pump; split <;> simp_all

/-- The transmitter's choice reaches the link port alone. -/
theorem State.pump_eq (s : State) : s.pump = { s with link := s.pump.link } := by
  unfold State.pump; split <;> rfl

@[simp] theorem State.pump_ctl (s : State) : s.pump.ctl = s.ctl := by rw [State.pump_eq]
@[simp] theorem State.pump_settings (s : State) : s.pump.settings = s.settings := by rw [State.pump_eq]
@[simp] theorem State.pump_zones (s : State) : s.pump.zones = s.zones := by rw [State.pump_eq]
@[simp] theorem State.pump_doors (s : State) : s.pump.doors = s.doors := by rw [State.pump_eq]
@[simp] theorem State.pump_chan (s : State) : s.pump.chan = s.chan := by rw [State.pump_eq]
@[simp] theorem State.pump_alloc (s : State) : s.pump.alloc = s.alloc := by rw [State.pump_eq]
@[simp] theorem State.pump_line (s : State) : s.pump.line = s.line := by rw [State.pump_eq]
@[simp] theorem State.pump_sel (s : State) : s.pump.sel = s.sel := by rw [State.pump_eq]
@[simp] theorem State.pump_store (s : State) : s.pump.store = s.store := by rw [State.pump_eq]
@[simp] theorem State.pump_sensePins (s : State) : s.pump.sensePins = s.sensePins := by rw [State.pump_eq]
@[simp] theorem State.pump_freeCount (s : State) : s.pump.freeCount = s.freeCount := by rw [State.pump_eq]
@[simp] theorem State.pump_pending (s : State) : s.pump.pending = s.pending := by rw [State.pump_eq]

/-- Of the link port the choice touches the notice queue, the ready reply and the transmitter alone, and it drops nothing. -/
theorem LinkPort.pump_spec (l : LinkPort) :
    l.pump.requests = l.requests ∧ l.pump.counts = l.counts ∧ l.pump.rxBuffer = l.rxBuffer ∧
    l.pump.noticesLost = l.noticesLost ∧ l.pump.silenceTimer = l.silenceTimer ∧ l.pump.lineRate = l.lineRate ∧
    l.pump.notices.length ≤ l.notices.length ∧ (l.tx ≠ .idle → l.pump = l) := by
  unfold LinkPort.pump
  split
  · split
    · simp_all
    · split <;> simp_all
  · simp_all
  · simp_all

/-! ## Notices (R187) -/

/-- A queued notice joins the end of the queue or sets the notices-lost flag, and touches nothing else. -/
theorem LinkPort.queueNotice_spec (l : LinkPort) (n : Notice) :
    (l.notices.length < 16 → l.queueNotice n = { l with notices := l.notices ++ [n] }) ∧
    (16 ≤ l.notices.length → l.queueNotice n = { l with noticesLost := true }) := by
  unfold LinkPort.queueNotice
  constructor <;> intro h
  · simp [h]
  · simp [show ¬ l.notices.length < 16 by omega]

/-- The notice queue never passes 16. -/
theorem LinkPort.length_queueNotices (l : LinkPort) (ns : List Notice) (h : l.notices.length ≤ 16) :
    (l.queueNotices ns).notices.length ≤ 16 := by
  induction ns generalizing l with
  | nil => exact h
  | cons n ns ih =>
    apply ih
    unfold LinkPort.queueNotice
    split
    · simp; omega
    · exact h

/-! ## The transmitter -/

/-- The choice leaves the transmitter free only where nothing waits (R186). -/
theorem LinkPort.pump_idle {l : LinkPort} (h : l.pump.tx = .idle) : l.pump.ready = none ∧ l.pump.notices = [] := by
  unfold LinkPort.pump at h ⊢
  cases h1 : l.tx <;> cases h2 : l.ready <;> cases h3 : l.notices <;> simp_all

/-- After the transmitter's choice nothing waits at a free transmitter, whatever waited before (R186). -/
theorem State.pump_nothingWaits (s : State) : s.pump.NothingWaits := by
  unfold State.pump
  split
  · exact fun _ => LinkPort.pump_idle
  · rename_i h; intro hp; rw [h] at hp; cases hp
  · rename_i h; intro hp; rw [h] at hp; cases hp

/-- After an event nothing waits at a free transmitter. -/
theorem State.event_nothingWaits (s : State) (f : State → State) : (s.event f).NothingWaits := by
  unfold State.event
  split
  · exact State.pump_nothingWaits _
  · rename_i h; intro hp; rw [h] at hp; cases hp
  · rename_i h; intro hp; rw [h] at hp; cases hp

/-! ## A completion handed on -/

@[simp] theorem Selector.handOn_handed (x : Selector) : x.handOn.handed = x.inputs := rfl
@[simp] theorem Selector.handOn_inputs (x : Selector) : x.handOn.inputs = x.inputs := rfl
@[simp] theorem Selector.handOn_pool (x : Selector) : x.handOn.pool = x.pool := rfl
@[simp] theorem Selector.handOn_freeList (x : Selector) : x.handOn.freeList = x.freeList := rfl
@[simp] theorem Selector.handOn_candidates (x : Selector) : x.handOn.candidates = x.candidates := rfl

/-! ## A RESTART taken -/

/-- The link port knows a RESTART taken by its reply, ready or in transmission. -/
theorem State.restarting_iff {s : State} : s.link.restarting = true ↔ s.RestartTaken := by
  unfold LinkPort.restarting State.RestartTaken
  rw [Bool.or_eq_true]
  refine or_congr ?_ ?_
  · cases s.link.ready <;> simp [Reply.isRestart]
  · cases s.link.tx <;> simp [Reply.isRestart]

/-- Behind a RESTART taken the wind-down does not end. -/
theorem State.lastChannelCheck_taken {s : State} (h : s.RestartTaken) : s.lastChannelCheck = s := by
  rw [State.lastChannelCheck, State.restarting_iff.2 h, if_pos rfl]

/-- With none taken the last channel's end is looked for. -/
theorem State.lastChannelCheck_free {s : State} (h : ¬ s.RestartTaken) : s.lastChannelCheck = s.windDownCheck := by
  rw [State.lastChannelCheck, if_neg (fun h' => h (State.restarting_iff.1 h'))]

end Sys2Proof.Machine
end

