-- ==== Sys2Proof/Tests/Slice0.lean ====
section
/-! SUPPORT. Tests of one step each, their expected values from the spec's worked examples and tables, and for each statement
with hypotheses a state that meets them. -/

open Sys2Proof Sys2Proof.Machine

namespace Sys2Proof.Tests

set_option Elab.async false

/-- The state a command leads to (the state itself where it does not answer a next state). -/
def after (i : Instr) (s : State) : State := match exec i s with | .next t => t | .fault _ => s | .refused _ => s

/-! ## Well-formedness: one ill-formed term for each check -/

def goodZone : ZoneBody := ⟨1, 0, some 1, 255, 0, 200, 4, none⟩
def goodTuning : TuningBody := ⟨20, 4, 5, 100, 300, 10⟩
def goodChannel : ChannelBody :=
  ⟨0, 0, 0, 0, [1], 300, 120, 100, 100, 200, 1, 10, 10, 0, 0, 0, none, 3, 0, none, none, 0, 0⟩
def goodSettings : SettingsBody := ⟨800, 4, 1, 210, 10, 0, 0, 300, 15, 168, 300, 0⟩
def goodStation : StationBody := ⟨0, 0, 4, 1, [0, 1], 0, none⟩

theorem test_wellFormed_bodies :
    (Instr.zoneDef 255 goodZone).wellFormed = true ∧
    (Instr.zoneDef 0 { goodZone with tuning := some goodTuning }).wellFormed = true ∧
    (Instr.channelDef 1 goodChannel).wellFormed = true ∧ (Instr.partSettings 1 goodSettings).wellFormed = true ∧
    (Instr.stationDef 1 goodStation).wellFormed = true := by decide

theorem test_illFormed_settings :
    [Instr.partSettings 256 goodSettings, .partSettings 1 { goodSettings with safeCeiling := 65536 },
     .partSettings 1 { goodSettings with safeThreshold := 256 }, .partSettings 1 { goodSettings with preemptionWidth := 256 },
     .partSettings 1 { goodSettings with fallbackSetpoint := 32768 },
     .partSettings 1 { goodSettings with fallbackSetpoint := -32769 }, .partSettings 1 { goodSettings with linkSilence := 256 },
     .partSettings 1 { goodSettings with autoStart := 256 }, .partSettings 1 { goodSettings with keepOnRestart := 256 },
     .partSettings 1 { goodSettings with doorHoldLimit := 65536 },
     .partSettings 1 { goodSettings with agreementTolerance := 256 },
     .partSettings 1 { goodSettings with exerciseInterval := 65536 },
     .partSettings 1 { goodSettings with exerciseDuration := 65536 },
     .partSettings 1 { goodSettings with lineRate := 256 }].all (fun i => !i.wellFormed) = true := by decide

theorem test_illFormed_zone :
    [Instr.zoneDef 256 goodZone, .zoneDef 1 { goodZone with zone := 256 }, .zoneDef 1 { goodZone with removeFlag := 1 },
     .zoneDef 1 { goodZone with removeFlag := 256 }, .zoneDef 1 { goodZone with doorGroup := some 255 },
     .zoneDef 1 { goodZone with panelStation := 256 }, .zoneDef 1 { goodZone with panelNumber := 256 },
     .zoneDef 1 { goodZone with initialSetpoint := 32768 }, .zoneDef 1 { goodZone with initialMode := 256 },
     .zoneDef 1 { goodZone with tuning := some { goodTuning with kp := 256 } },
     .zoneDef 1 { goodZone with tuning := some { goodTuning with ki := 256 } },
     .zoneDef 1 { goodZone with tuning := some { goodTuning with deadband := 256 } },
     .zoneDef 1 { goodZone with tuning := some { goodTuning with rateLimit := 65536 } },
     .zoneDef 1 { goodZone with tuning := some { goodTuning with ventFloor := 65536 } },
     .zoneDef 1 { goodZone with tuning := some { goodTuning with nudgeLimit := 256 } },
     .zoneDefRemove 256 1, .zoneDefRemove 1 256].all (fun i => !i.wellFormed) = true := by decide

theorem test_illFormed_channel :
    [Instr.channelDef 256 goodChannel, .channelDef 1 { goodChannel with channel := 256 },
     .channelDef 1 { goodChannel with removeFlag := 1 }, .channelDef 1 { goodChannel with kind := 256 },
     .channelDef 1 { goodChannel with direction := 256 }, .channelDef 1 { goodChannel with served := [256] },
     .channelDef 1 { goodChannel with served := List.replicate 24 1 }, .channelDef 1 { goodChannel with tOn := 65536 },
     .channelDef 1 { goodChannel with tOff := 65536 }, .channelDef 1 { goodChannel with lmin := 256 },
     .channelDef 1 { goodChannel with rated := 65536 }, .channelDef 1 { goodChannel with surge := 65536 },
     .channelDef 1 { goodChannel with startTime := 256 }, .channelDef 1 { goodChannel with minOn := 65536 },
     .channelDef 1 { goodChannel with minOff := 65536 }, .channelDef 1 { goodChannel with afterRun := 65536 },
     .channelDef 1 { goodChannel with afterRunCurrent := 65536 }, .channelDef 1 { goodChannel with restart := 256 },
     .channelDef 1 { goodChannel with prerequisite := some 255 }, .channelDef 1 { goodChannel with priority := 256 },
     .channelDef 1 { goodChannel with group := 256 }, .channelDef 1 { goodChannel with ambientLow := some (-32768) },
     .channelDef 1 { goodChannel with ambientHigh := some 32768 }, .channelDef 1 { goodChannel with failAction := 256 },
     .channelDef 1 { goodChannel with exercise := 256 }, .channelDefRemove 256 1, .channelDefRemove 1 256].all
      (fun i => !i.wellFormed) = true := by decide

theorem test_illFormed_definitions :
    [Instr.groupDef 256 0 0 1 4, .groupDef 1 256 0 1 4, .groupDef 1 0 65536 1 4, .groupDef 1 0 0 256 4, .groupDef 1 0 0 1 65536,
     .rotaLoad 256 0 0 [], .rotaLoad 1 256 0 [], .rotaLoad 1 0 256 [], .rotaLoad 1 0 0 [some 255],
     .rotaLoad 1 0 0 (List.replicate 54 none), .promptDef 256 0 0 0 1 0, .promptDef 1 256 0 0 1 0, .promptDef 1 0 1 0 1 0,
     .promptDef 1 0 0 256 1 0, .promptDef 1 0 0 0 256 0, .promptDef 1 0 0 0 1 256, .promptDefRemove 256 0,
     .promptDefRemove 1 256, .stationDef 256 goodStation, .stationDef 1 { goodStation with station := 256 },
     .stationDef 1 { goodStation with removeFlag := 1 }, .stationDef 1 { goodStation with address := 256 },
     .stationDef 1 { goodStation with enabled := 256 }, .stationDef 1 { goodStation with kinds := [256] },
     .stationDef 1 { goodStation with kinds := List.replicate 50 0 }, .stationDef 1 { goodStation with policy := 256 },
     .stationDef 1 { goodStation with panelZone := some 255 }, .stationDefRemove 256 0, .stationDefRemove 1 256,
     .inputDef 256 1 0 ⟨0, 1⟩ [], .inputDef 1 256 0 ⟨0, 1⟩ [], .inputDef 1 1 1 ⟨0, 1⟩ [], .inputDef 1 1 0 ⟨256, 1⟩ [],
     .inputDef 1 1 0 ⟨0, 256⟩ [], .inputDef 1 1 0 ⟨0, 1⟩ [⟨256, 1⟩], .inputDef 1 1 0 ⟨0, 1⟩ (List.replicate 26 ⟨0, 1⟩),
     .inputDefRemove 256 1, .inputDefRemove 1 256, .poolDef 256 [], .poolDef 1 [⟨0, 256⟩],
     .poolDef 1 (List.replicate 28 ⟨0, 1⟩)].all (fun i => !i.wellFormed) = true := by decide

theorem test_illFormed_requests :
    [Instr.zoneSetpoint 256 1 0 0, .zoneSetpoint 1 256 0 0, .zoneSetpoint 1 1 32768 0, .zoneSetpoint 1 1 0 256,
     .supply 256 0 0, .supply 1 65536 0, .supply 1 0 256, .door 256 1 0, .door 1 256 0, .door 1 1 256, .clearFault 256 0,
     .clearFault 1 256, .sweepNow 256, .start 256, .stop 256, .restart 256, .save 256, .status 256, .zoneReport 256 1,
     .zoneReport 1 256, .channelReport 256 1, .channelReport 1 256, .allocReport 256, .groupReport 256 1, .groupReport 1 256,
     .inputReport 256 1, .inputReport 1 256, .stationReport 256 1, .stationReport 1 256, .readConfig 256 1 0,
     .readConfig 1 256 0, .readConfig 1 1 256, .rotaRead 256 0 1, .rotaRead 1 256 1, .rotaRead 1 0 256, .unknownKind 256 10,
     .unknownKind 1 256, .unknownKind 1 0x20].all (fun i => !i.wellFormed) = true := by decide

theorem test_illFormed_events :
    [Instr.frameLengthImpossible 2, .frameLengthImpossible 58, .frameLengthImpossible 256,
     .frameComplete 0x20 1 (List.replicate 57 0) 0, .pollReplyGapExpiry [], .pollReplyEnd [], .holdTimerExpiry 0,
     .holdTimerExpiry 13, .doorLimitTimerExpiry 0, .doorLimitTimerExpiry 5, .runOnTimerExpiry 4, .startTimerExpiry 32,
     .minimumOnExpiry 32, .afterRunExpiry 32, .minimumOffExpiry 32, .faultBackoffExpiry 32, .cleanRunExpiry 32,
     .faultSenseReport 32 true, .exerciseHour 2, .exerciseRetryExpiry 2, .exerciseSatisfied 2].all
      (fun i => !i.wellFormed) = true := by decide

/-! ## The codec: bodies written out from the tables of sections 11.5 and 11.6 -/

/-- 03 CHANNEL-DEF, 33 + count bytes: a PWM AIR channel 12 serving zones 1 and 3, the ambient low bound absent (8000 hexadecimal). -/
theorem test_decode_channelDef :
    decodeRequest 0x03 0x2A
      [0x0C, 0x00, 0x01, 0x02, 0x02, 0x01, 0x03, 0x00, 0xC8, 0x00, 0x64, 0x1E, 0x00, 0x96, 0x00, 0x00, 0x00, 0x00, 0x05, 0x00,
       0x00, 0x00, 0x00, 0x00, 0x00, 0x00, 0xFF, 0x03, 0x01, 0x80, 0x00, 0x01, 0x2C, 0x01, 0x00] =
    .request (.channelDef 42
      { channel := 12, removeFlag := 0, kind := 1, direction := 2, served := [1, 3], tOn := 200, tOff := 100, lmin := 30,
        rated := 150, surge := 0, startTime := 0, minOn := 5, minOff := 0, afterRun := 0, afterRunCurrent := 0, restart := 0,
        prerequisite := none, priority := 3, group := 1, ambientLow := none, ambientHigh := some 300, failAction := 1,
        exercise := 0 }) := by decide +kernel

/-- 02 ZONE-DEF in its 16-byte form, and 10 ZONE-SETPOINT with a setpoint below zero. -/
theorem test_decode_zone :
    decodeRequest 0x02 1
      [0x03, 0x00, 0xFF, 0xFF, 0x00, 0x00, 0xDC, 0x04, 0x14, 0x04, 0x05, 0x00, 0x64, 0x01, 0x2C, 0x0A] =
      .request (.zoneDef 1 ⟨3, 0, none, 255, 0, 220, 4, some ⟨20, 4, 5, 100, 300, 10⟩⟩) ∧
    decodeRequest 0x10 2 [0x03, 0xFF, 0xFE, 0x02] = .request (.zoneSetpoint 2 3 (-2) 2) := by decide +kernel

/-- 04 GROUP-DEF, 05 ROTA-LOAD with an EMPTY entry, 06 PROMPT-DEF, 08 INPUT-DEF and 07 STATION-DEF with their counts. -/
theorem test_decode_definitions :
    decodeRequest 0x04 1 [0x02, 0x01, 0x2C, 0x04, 0x00, 0x08] = .request (.groupDef 1 2 300 4 8) ∧
    decodeRequest 0x05 1 [0x04, 0x00, 0x02, 0x06, 0xFF] = .request (.rotaLoad 1 4 0 [some 6, none]) ∧
    decodeRequest 0x06 1 [0x01, 0x00, 0x1F, 0x01, 0x14] = .request (.promptDef 1 1 0 31 1 20) ∧
    decodeRequest 0x08 1 [0x01, 0x00, 0x00, 0x01, 0x01, 0x01, 0x02] = .request (.inputDef 1 1 0 ⟨0, 1⟩ [⟨1, 2⟩]) ∧
    decodeRequest 0x07 1 [0x02, 0x00, 0x09, 0x01, 0x02, 0x00, 0x01, 0x01, 0x02] =
      .request (.stationDef 1 ⟨2, 0, 9, 1, [0, 1], 1, some 2⟩) ∧
    decodeRequest 0x09 1 [0x02, 0x03, 0x01, 0x03, 0x02] = .request (.poolDef 1 [⟨3, 1⟩, ⟨3, 2⟩]) := by decide +kernel

/-- 11 SUPPLY, 12 DOOR and the bodies of 0, 1 and 2 bytes; a wrong length is MALFORMED and 17 hexadecimal names no message. -/
theorem test_decode_requests :
    decodeRequest 0x11 4 [0x04, 0xB0, 0x06] = .request (.supply 4 1200 6) ∧
    decodeRequest 0x12 5 [0x01, 0x01] = .request (.door 5 1 1) ∧ decodeRequest 0x20 6 [] = .request (.status 6) ∧
    decodeRequest 0x26 7 [0x0F] = .request (.stationReport 7 15) ∧
    decodeRequest 0x27 8 [0x02, 0x0C] = .request (.readConfig 8 2 12) ∧
    decodeRequest 0x17 9 [] = .unknown ∧ decodeRequest 0x11 4 [0x04, 0xB0] = .malformed := by decide +kernel

/-! ## Reset -/

/-- Reset is the power-on of a part whose store has never been written, the first STORE-FAULT in transmission (R170, R186, R192). -/
theorem test_reset_is_a_power_on : State.reset = ({} : State).supplyLost.powerUp.pump := by decide +kernel

/-- The defaults of the records are the factory contents of the chapters' tables. -/
theorem test_factory_records :
    factoryZone = {} ∧ factoryChannel false = {} ∧ factoryStation = {} ∧
    State.reset.settings = ⟨800, 4, 1, 210, 10, false, false, 300, 15, 168, 600, .r115200⟩ := by decide

/-! ## The worked computations of chapter 1 -/

/-- Zone 3 of the worked computations. -/
def zoneThree : Zone :=
  { defined := true, defn := { panel := some ⟨0, 3⟩ }, commandedSetpoint := 220, commandedMode := .auto
    effectiveSetpoint := 230, effectiveMode := .auto, nudge := 2, integral := 3200, demand := 150 }

/-- The part in RUN with a periodic completion waiting, zone 3's panel point at +2 and Z3 at `v`. -/
def computing (z : Zone) (v : Int) : State :=
  let inputs := State.reset.sel.inputs.set1 3
    { defn := { primary := some ⟨0, 1⟩ }, value := v, holding := false, seenGood := true }
  { State.reset with
    ctl := { mode := .run }
    zones := State.reset.zones.set1 3 z
    line := { inFlight := some { kind := .periodic, stage := .handedOn false false }
              stations := State.reset.line.stations.set 0
                { defined := true, defn := { kinds := [.temp, .temp, .nudge] }
                  points := [{ kind := .temp }, { kind := .temp }, { kind := .nudge, value := 2, quality := .good }] } }
    sel := { inputs := inputs, handed := inputs } }

/-- Computations A and B: an ordinary step to I 3244 and D 250, and saturation, I kept and D 350. -/
theorem test_computations_A_and_B :
    let a := (after .zoneSweepCompletion (computing zoneThree 214)).zone 3
    let b := (after .zoneSweepCompletion (computing a 150)).zone 3
    (a.effectiveSetpoint, a.integral, a.demand) = (230, 3244, 250) ∧ (b.integral, b.demand) = (3244, 350) := by
  decide +kernel

/-- Computation C: the mode changed to COOL, I 0 and D 0. -/
theorem test_computation_C :
    let z := (after .zoneSweepCompletion
      (computing { zoneThree with commandedMode := .cool, integral := 3244, demand := 350 } 150)).zone 3
    (z.effectiveMode, z.integral, z.demand) = (.cool, 0, 0) := by decide +kernel

/-! ## The worked examples of chapter 2 -/

def demands (l : List ZoneDemand) : Table ZoneDemand 12 := (l.zipIdx).foldl (fun t e => t.set e.2 e.1) (Table.fill 12 {})

/-- A RUNNING channel `x` with one update of demands waiting; zone 3's vent floor is 200. -/
def driven (x : Channel) (l : List ZoneDemand) : State :=
  { State.reset with
    ctl := { mode := .run }
    zones := State.reset.zones.set1 3 { defined := true, defn := { ventFloor := 200 } }
    chan := { channels := State.reset.chan.channels.set 12 x, grantOrder := [12], updates := [demands l] } }

/-- The driving values of channels 4, 10, 12, 13 and 14. -/
theorem test_driving_values :
    let d : List ZoneDemand := [⟨-150, .auto⟩, ⟨-420, .auto⟩, ⟨250, .auto⟩, ⟨0, .off⟩]
    let v := fun (direction : Direction) (served : List Nat) =>
      ((after .zoneDemandUpdate (driven { defined := true, defn := { direction := direction, served := served } } d)).channel
        12).driving
    (v .cool [1, 2], v .heat [2, 3], v .air [1, 3], v .air [4], v .air [3, 4]) = (420, 250, 300, 0, 250) := by
  decide +kernel

def blower (applied : Nat) : Channel :=
  { defined := true, state := .running, applied := applied, own := true, combined := true, minOnExpired := true
    defn := { kind := .pwm, direction := .heat, served := [1], lmin := 30, tOn := 200, tOff := 100, rated := 150, group := 1 } }

/-- The PWM targets 39, 65, 100 and 30, the falls applied at the update, and the counted currents 59 and 45. -/
theorem test_pwm_targets :
    let f := fun (applied : Nat) (v : Int) =>
      let x := (after .zoneDemandUpdate (driven (blower applied) [⟨v, .auto⟩])).channel 12
      (x.target, x.applied, x.counted)
    f 39 300 = (39, 39, 59) ∧ f 39 600 = (65, 39, 59) ∧ f 65 1000 = (100, 65, 98) ∧ f 100 300 = (39, 39, 59) ∧
    f 39 150 = (30, 30, 45) := by decide +kernel

/-- Own request over the updates 250, 320, 200, 120, 250 with T_on 300 and T_off 120. -/
theorem test_hysteresis :
    let f := fun (own : Bool) (v : Int) =>
      ((after .zoneDemandUpdate (driven
        { defined := true, own := own, defn := { direction := .heat, served := [1], tOn := 300, tOff := 120 } }
        [⟨v, .auto⟩])).channel 12).own
    (f false 250, f false 320, f true 200, f true 120, f false 250) = (false, true, true, false, false) := by
  decide +kernel

/-! ## Slot decisions: the worked examples of chapters 3 and 4 -/

/-- The part in RUN with nothing to send, the given channels, the ceiling, group 0's definition and credit. -/
def allotting (l : List (Nat × Channel)) (ceiling : Nat) (order : List Nat) (g : ShareGroup) : State :=
  { State.reset with
    ctl := { mode := .run }
    link := {}
    chan := { channels := l.foldl (fun t e => t.set e.1 e.2) State.reset.chan.channels, grantOrder := order }
    alloc := { ceiling := ceiling, threshold := 8, slotTimer := some 0, stalenessTimer := some 5000,
               groups := State.reset.alloc.groups.set 0 g } }

/-- Chapter 3: the limited PWM rise, from 40 toward 90 under a ceiling of 500, stops at 80, a current of 160. -/
theorem test_limited_rise :
    let x : Channel :=
      { defined := true, state := .running, applied := 40, target := 90, own := true, combined := true
        defn := { kind := .pwm, rated := 200, lmin := 10, priority := 0 } }
    let y : Channel :=
      { defined := true, state := .running, own := true, combined := true, defn := { rated := 340, priority := 0 } }
    let t := after .slotDecision (allotting [(20, x), (21, y)] 500 [20, 21] {})
    ((t.channel 20).applied, (t.channel 20).counted) = (80, 160) := by decide +kernel

def heater (current : Nat) (state : ChannelState) (held : Bool) : Channel :=
  { defined := true, state := state, own := true, combined := true, minOnExpired := state = .running && !held
    defn := { rated := current, surge := current, minOn := if held then 600 else 0, priority := 3 } }

/-- Section 4.6, slot 1: three heaters granted, the credit 2400 to 2100. Slot 11: the held charge takes 150 to -90 and channel 18
is released. Slot 26: the held charge stops at -2400. -/
theorem test_two_heaters_and_a_third :
    let g := fun (credit : Int) => ({ defn := ⟨300, 4, 8⟩, credit := credit } : ShareGroup)
    let a := after .slotDecision (allotting
      [(16, heater 120 .waiting true), (17, heater 120 .waiting true), (18, heater 60 .waiting false)] 2000 [] (g 2400))
    let b := after .slotDecision (allotting
      [(16, heater 120 .running true), (17, heater 120 .running true), (18, heater 60 .running false)] 2000 [16, 17, 18] (g 75))
    let c := after .slotDecision (allotting
      [(16, heater 120 .running true), (17, heater 120 .running true), (18, heater 60 .waiting false)] 2000 [16, 17] (g (-2400)))
    (a.chan.grantOrder, (a.group 0).credit) = ([16, 17, 18], 2100) ∧
    (b.chan.grantOrder, (b.group 0).credit, (b.channel 18).state) = ([16, 17], -90, .waiting) ∧
    ((c.group 0).credit, (c.group 0).creditRefusals) = (-2400, 1) := by decide +kernel

/-- Chapter 3, slot 90: channel 9 displaces channels 3 and 7, and the ceiling of 500 keeps its surge of 350. -/
theorem test_displacement :
    let old : Channel :=
      { defined := true, state := .running, own := true, combined := true, minOnExpired := true
        defn := { rated := 200, surge := 200, priority := 5, minOn := 0 } }
    let x : Channel :=
      { defined := true, state := .waiting, own := true, combined := true
        defn := { rated := 250, surge := 350, startTime := 1, priority := 1 } }
    let t := after .slotDecision (allotting
      [(3, { old with minOnExpired := false }), (7, { old with minOnExpired := false }), (9, x)] 500 [7, 3]
      { defn := ⟨4000, 16, 4⟩, credit := 16000 })
    let u := after .slotDecision (allotting [(3, old), (7, old), (9, x)] 500 [7, 3] { defn := ⟨4000, 16, 4⟩, credit := 16000 })
    u.chan.grantOrder = [9] ∧ (u.channel 9).state = .starting ∧ (t.channel 9).state = (u.channel 9).state := by
  decide +kernel

/-! ## The worked sequences of chapters 5 to 10 -/

/-- Chapter 5 at 0.00: an opening grants channel 30 and leaves channel 31 WAITING; the reply says 1 and 1. -/
theorem test_passenger_stop :
    let curtain : Channel :=
      { defined := true, defn := { rated := 150, surge := 200, startTime := 1, priority := 2, group := 3, served := [1] } }
    let others : Channel :=
      { defined := true, state := .running, own := true, combined := true, defn := { rated := 780, priority := 0 } }
    let s := allotting [(0, others), (30, curtain), (31, curtain)] 1000 [0] {}
    let t := after (.door 9 1 1)
      { s with
        alloc := { s.alloc with
          threshold := 6
          groups := s.alloc.groups.set 3 { defn := ⟨600, 4, 8⟩, credit := 0 }
          prompts := ((Table.fill 4 {}).set 0 { defn := some ⟨30, 1, 20⟩ }).set 1 { defn := some ⟨31, 1, 20⟩ } } }
    t.link.tx = .reply ⟨0x12, 9, .done, .door 1 true 1 1⟩ ∧ (t.channel 30).state = .starting ∧
    (t.channel 31).state = .waiting ∧ (t.doorGroup 1).limitTimer = some 300000 ∧ (t.group 3).creditRefusals = 0 ∧
    (t.group 3).peakRefusals = 0 := by decide +kernel

/-- Chapter 9 at 0: a STOP leaves 2 channels STOPPING, 4 in LOCKOUT for 180 s and 12 IDLE. -/
theorem test_stop_at_the_terminus :
    let on := fun (d : ChannelDef) => ({ defined := true, state := .running, own := true, combined := true, defn := d } : Channel)
    let t := after (.stop 3) (allotting
      [(2, on { afterRun := 120, afterRunCurrent := 40, minOff := 60 }), (4, on { minOff := 180, prerequisite := some 5 }),
       (5, on { afterRun := 20, afterRunCurrent := 20 }), (12, on { kind := .pwm })] 800 [5, 4, 2, 12] {})
    t.link.tx = .reply ⟨0x19, 3, .accepted, .stopping 2⟩ ∧ t.ctl.mode = .windDown ∧ (t.channel 2).state = .stopping ∧
    (t.channel 4).timer = some 180000 ∧ (t.channel 5).timer = some 20000 ∧ (t.channel 12).state = .idle := by decide +kernel

/-- Chapter 10, R191: a frame that finds the queue at 4 is discarded as QUEUE-FULL; with 3 it joins it. -/
theorem test_queue_full :
    let s := fun (n : Nat) => ({ State.reset with link := { requests := List.replicate n ⟨0x20, 1, []⟩ } } : State)
    let t := fun (n : Nat) => after (.door 25 1 1) (s n)
    (t 4).link.counts.queueFull = 1 ∧ (t 4).link.requests.length = 4 ∧ (t 3).link.requests.length = 4 := by decide +kernel

/-- Section 10.1 and 11.5: a whole STATUS frame is answered in 55 bytes after its result code, and counted. -/
theorem test_status_frame :
    let t := after (.frameComplete 0x20 6 [] (crc [0x02, 0x20, 0x06])) { State.reset with link := {} }
    t.link.counts.framesReceived = 1 ∧
    (match t.link.tx with | .reply r => r.body.length | .notice _ => 0 | .idle => 0) = 56 := by decide +kernel

/-- Chapter 6, sweep 1: a write poll follows station 0's read under ON-CHANGE, and its acknowledgement clears the flag. -/
theorem test_write_poll :
    let s : State :=
      { State.reset with
        zones := State.reset.zones.set1 1 { defined := true, effectiveSetpoint := 215, effectiveMode := .heat }
        line := { stations := State.reset.line.stations.set 0
                    { defined := true, points := [{ kind := .temp }]
                      defn := { address := 4, enabled := true, kinds := [.temp], policy := .onChange, panelZone := some 1 } }
                  inFlight := some { kind := .periodic, last := some 0,
                                     poll := some { station := 0, kind := .read, address := 4, points := 1 } } } }
    let t := after (.pollReplyEnd (readReply 4 [212])) s
    let u := after (.pollReplyEnd (writeAck 4)) t
    (t.line.inFlight.bind Sweep.poll).map Poll.kind = some (.write 215 .heat) ∧
    (t.station 0).points = [{ kind := .temp, value := 212, quality := .good, goodCount := 1 }] ∧
    (u.station 0).writePending = false ∧ (u.line.inFlight.map Sweep.stage) = some .selector := by decide +kernel

/-- Chapter 2 at 43.50: a report on channel 5 faults it and releases channel 4 into its lockout of 180 s. -/
theorem test_fan_fault :
    let on := fun (d : ChannelDef) => ({ defined := true, state := .running, own := true, combined := true, defn := d } : Channel)
    let t := after (.faultSenseReport 5 true) (allotting
      [(4, on { minOff := 180, prerequisite := some 5 }), (5, { on { afterRun := 20 } with drawn := true })] 800 [5, 4] {})
    (t.channel 4).state = .lockout ∧ (t.channel 4).timer = some 180000 ∧ (t.channel 5).state = .faulted ∧
    (t.channel 5).faults = 1 ∧ (t.channel 5).timer = some 30000 ∧ t.chan.grantOrder = [] ∧
    t.link.tx = .notice (.channelFaulted 5 .running 1) ∧ t.link.notices = [] := by decide +kernel

/-- Chapter 4, the rota grant sequence: at an opening a credit of -1600 fails the floor test, and -1540 is charged to -1600. -/
theorem test_prompt_floor :
    let curtain : Channel := { defined := true, defn := { rated := 50, surge := 60, startTime := 1, priority := 2 } }
    let t := fun (credit : Int) =>
      let s := allotting [(24, curtain)] 1000 [] { defn := ⟨400, 8, 4⟩, credit := credit }
      after (.door 9 1 1)
        { s with alloc := { s.alloc with prompts := (Table.fill 4 {}).set 0 { defn := some ⟨24, 1, 0⟩ } } }
    (((t (-1600)).channel 24).state, ((t (-1600)).group 0).creditRefusals) = (.waiting, 1) ∧
    (((t (-1540)).channel 24).state, ((t (-1540)).group 0).credit) = (.starting, -1600) := by decide +kernel

/-- Chapter 7 at sweep 5: Z1 takes its good alternate 209, Z2 the good pool point 0, and the free list is left with 1. -/
theorem test_failing_over :
    let point := fun (v : Int) (q : Quality) => ({ kind := .temp, value := v, quality := q } : Point)
    let station := fun (l : List Point) => ({ defined := true, defn := { kinds := l.map Point.kind }, points := l } : Station)
    let failing := fun (d : InputDef) => ({ defn := d, holding := true, seenGood := true, badCount := 4, value := 1 } : LogicalInput)
    let s : State :=
      { State.reset with
        ctl := { mode := .run }
        zones := (State.reset.zones.set1 1 { defined := true }).set1 2 { defined := true }
        line := { inFlight := some { kind := .periodic, stage := .selector }
                  stations := ((State.reset.line.stations.set 0 (station [point 214 .missing, point 220 .missing])).set 1
                    (station [point 209 .good])).set 3 (station [point 223 .good, point 216 .good]) }
        sel := { inputs := (State.reset.sel.inputs.set1 1 (failing { primary := some ⟨0, 1⟩, alternates := [⟨1, 1⟩] })).set1 2
                   (failing { primary := some ⟨0, 2⟩ })
                 pool := [⟨3, 1⟩, ⟨3, 2⟩], freeList := [0, 1] } }
    let t := after .selectorSweepCompletion s
    ((t.input 1).source, (t.input 1).value) = (.alternate1, 209) ∧ ((t.input 2).source, (t.input 2).value) = (.pool 0, 223) ∧
    t.sel.candidates = [1, 2] ∧ t.sel.freeList = [1] := by decide +kernel

/-- Chapter 8 at + 303.5 s: a forced release postpones the exercise: 12 h, EXERCISE-POSTPONED (RELEASE, 300 s), LOCKOUT 180 s. -/
theorem test_exercise_postponed :
    let x : Channel :=
      { defined := true, state := .running, exercise := true, combined := true
        defn := { priority := 4, minOn := 120, minOff := 180, exercise := true } }
    let s := allotting [(8, x)] 800 [8] {}
    let t := after (.supply 1 800 4)
      { s with
        chan := { s.chan with
          exercise := s.chan.exercise.set 0 { bound := some 8, idleHours := 172, due := true, runTime := 300000, running := true } } }
    (t.exerciseRecord 0).retry = some 43200000 ∧ (t.exerciseRecord 0).running = false ∧ (t.channel 8).exercise = false ∧
    (t.channel 8).state = .lockout ∧ (t.channel 8).timer = some 180000 ∧
    t.link.notices.getLast? = some (.exercisePostponed 8 .release 300) := by decide +kernel

/-- Chapter 9 at 10: the silence expiry closes the door, ends channel 30's prompt request into its after-run and keeps the rest. -/
theorem test_link_silence :
    let curtain : Channel :=
      { defined := true, state := .running, prompt := true, combined := true, minOnExpired := true
        defn := { rated := 150, priority := 2, afterRun := 10, afterRunCurrent := 20 } }
    let others : Channel := { defined := true, state := .running, own := true, combined := true, defn := { rated := 600, priority := 0 } }
    let s := allotting [(0, others), (30, curtain)] 800 [0, 30] {}
    let t := after .linkSilenceExpiry
      { s with
        link := { silenceTimer := some 0 }
        alloc := { s.alloc with prompts := (Table.fill 4 {}).set 0 { defn := some ⟨30, 1, 20⟩ } }
        doors := s.doors.set1 1 { isOpen := true, limitTimer := some 200000 } }
    t.ctl.mode = .fallback ∧ t.ctl.fallbackFlag = true ∧ (t.doorGroup 1).isOpen = false ∧ (t.channel 30).state = .stopping ∧
    t.over Channel.draws = 620 ∧ t.link.tx = .notice (.fallbackEntered 800 4) := by decide +kernel

/-- Chapter 1's door stop at 72 s: the decay takes D from -100 to -90 and keeps I. -/
theorem test_input_decay :
    let t := after .zoneSweepCompletion
      (computing { zoneThree with commandedMode := .cool, effectiveMode := .cool, hold := .inputDecay, demand := -100
                                  integral := -2560 } 0)
    let s := computing { zoneThree with commandedMode := .cool, effectiveMode := .cool, hold := .inputDecay, demand := -100
                                        integral := -2560 } 0
    let u := after .zoneSweepCompletion
      { s with sel := { s.sel with handed := s.sel.handed.set1 3 { defn := { primary := some ⟨0, 1⟩ }, state := .invalid,
                                                                   source := .none, holding := false } } }
    ((u.zone 3).demand, (u.zone 3).integral, (u.zone 3).hold) = (-90, -2560, .inputDecay) ∧ (t.zone 3).hold = .normal := by
  decide +kernel

/-! ## Witnesses: for each statement with hypotheses, a state and operands that meet them -/

/-- The part in mode `m` with channels 0 and 1, zone 1, a prompt entry for channel 0 at door group 1, an exercise record bound to
channel 0, and timers running. -/
def lab (m : PartMode) (x y : Channel) (l : List Instr := []) : State :=
  { State.reset with
    ctl := { mode := m }
    zones := State.reset.zones.set1 1 { defined := true, hold := .inputHold, holdTimer := some 0 }
    chan :=
      { channels := (State.reset.chan.channels.set 0 x).set 1 y
        grantOrder := (if x.active then [0] else []) ++ (if y.active then [1] else [])
        exercise := State.reset.chan.exercise.set 0 { bound := some 0, idleHours := 167 } }
    alloc :=
      { slotTimer := some 0, stalenessTimer := some 0, threshold := 8
        prompts := State.reset.alloc.prompts.set 0 { defn := some ⟨0, 1, 0⟩, runOnTimer := some 0 } }
    link := { silenceTimer := some 0 }
    pending := l }

theorem lab_channel (m : PartMode) (x y : Channel) (l : List Instr) (c : Nat) :
    (lab m x y l).channel c = if c = 0 then x else if c = 1 then y else {} := by
  match c with
  | 0 => rfl
  | 1 => rfl
  | n + 2 =>
    show (List.replicate 30 ({} : Channel)).getD n {} = _
    rw [List.getD_eq_getElem?_getD, List.getElem?_replicate]
    split <;> rfl

/-- A part whose channel 0 alone is defined is settled where that channel is. -/
theorem settled_of {s : State} {x : Channel} (hc : ∀ c, s.channel c = if c = 0 then x else {})
    (hz : (s.zone 1).defined = true) (hm : s.ctl.mode = .run)
    (hx : x.defn.served = [1] ∧ x.defn.tOff < x.defn.tOn ∧ x.defn.ambientLow = none ∧
      x.defn.prerequisite = none ∧ x.drawn = false ∧ x.inhibit = false ∧
      x.combined = (x.defined && (x.own || x.prompt || x.exercise)))
    (hs : (x.state ≠ .idle ∨ x.combined = false) ∧ (x.state ≠ .waiting ∨ x.combined = true) ∧
      (x.state ≠ .running ∨ x.minOnExpired = false ∨ x.combined = true)) :
    s.Settled := by
  obtain ⟨x1, x2, x3, x4, x5, x6, x7⟩ := hx
  obtain ⟨s1, s2, s3⟩ := hs
  refine ⟨fun _ c => ?_, fun c => ?_, fun c => ?_⟩
  · have hp : ∀ d, ¬ ((s.channel d).defined = true ∧ (s.channel d).defn.prerequisite = some c ∧ (s.channel d).combined = true) := by
      intro d; rw [hc]; split <;> simp_all
    constructor
    · rw [hc]
      constructor
      · split <;> simp_all
      · rintro ⟨-, d, h⟩; exact absurd h (hp d)
    · rw [hc, hm]; split
      · cases hd : x.defined <;> simp_all [or_assoc]
      · simp
  · simp only [State.ChannelOk, State.channelTests, AllHold]; rw [hc]
    split
    · simp_all
    · simp
  · rw [hc]; split
    · simp_all; grind
    · simp


/-- A working configuration of zone 1, channel 0, station 0 with one TEMP point and logical input Z1 is valid. -/
theorem valid_of {s : State} {x : Channel} {y : Station} {p : LogicalInput}
    (hc : ∀ c, s.channel c = if c = 0 then x else {}) (hz : ∀ n, (s.zone n).defined = true ↔ n = 1)
    (hp : ∀ n q, (s.zone n).defn.panel ≠ some q) (hs : ∀ i, s.station i = if i = 0 then y else {})
    (hi : ∀ i, s.input i = if i = 1 then p else {}) (hr : s.alloc.rotaLength = 0) (he : ∀ e, (s.promptEntry e).defn = none)
    (hl : s.sel.pool = []) (hg : ∀ g, (s.group g).defn = {})
    (hx : x.defined = true ∧ x.defn.served = [1] ∧ x.defn.tOff < x.defn.tOn ∧ x.defn.ambientLow = none ∧
      x.defn.prerequisite = none ∧ x.defn.startingFigure ≤ 4000)
    (hy : y.defined = true ∧ y.defn = { kinds := [.temp] }) (hq : p.defn = { primary := some ⟨0, 1⟩ }) : s.Valid := by
  obtain ⟨x1, x2, x3, x4, x5, x6⟩ := hx
  obtain ⟨y1, y2⟩ := hy
  have hk : s.IsTemp ⟨0, 1⟩ := by simp [State.IsTemp, State.listedKind, hs, y1, y2]
  refine ⟨⟨1, (hz 1).2 rfl⟩, ⟨0, by simp [hc, x1]⟩, fun n _ q h => absurd h (hp n q), fun c => ?_, fun g _ _ => ⟨fun c hd _ => ?_, fun _ => ?_, trivial⟩,
    fun k c h => ?_, fun e d h => ?_, fun i hd => ?_, fun i h1 h2 => ?_, fun k q h => ?_⟩
  · simp only [State.ChannelOk, State.channelTests, AllHold]; rw [hc]; split
    · have := (hz 1).2 rfl; simp_all
    · simp
  · rw [hc] at hd ⊢; rw [hg]; split at hd <;> simp_all
  · rw [hg]; decide
  · omega
  · simp [he] at h
  · have hi0 : i = 0 := by
      by_contra h0; rw [hs, if_neg h0] at hd; exact absurd hd (by decide)
    subst hi0
    refine ⟨fun j hj => absurd hj (Nat.not_lt_zero j), fun h => absurd ?_ h, ?_, trivial⟩
    · rw [hs]; simp [y2]
    · simp [hs, y1, y2, List.range_succ]
  · refine ⟨fun _ hd => ?_, fun q h => ?_, ?_, ⟨?_, ?_⟩, trivial⟩
    · rw [hz] at hd; rw [hi, if_pos hd, hq]; simp
    · rw [hi] at h; split at h
      · rw [hq] at h; cases h; exact hk
      · simp at h
    all_goals rw [hi]; split <;> simp [hq]
  · simp [hl] at h


theorem channel_at {s : State} {x : Channel} (h : ∀ c < 32, s.channel c = if c = 0 then x else {}) (c : Nat) :
    s.channel c = if c = 0 then x else {} := by
  by_cases hc : c < 32
  · exact h c hc
  · rw [if_neg (by omega)]; exact Table.get_of_le _ _ (by omega)

theorem zone_at {s : State} {z : Zone} (h : ∀ n < 13, s.zone n = if n = 1 then z else {}) (n : Nat) :
    s.zone n = if n = 1 then z else {} := by
  by_cases hn : n < 13
  · exact h n hn
  · obtain ⟨k, rfl⟩ : ∃ k, n = k + 13 := ⟨n - 13, by omega⟩
    rw [if_neg (by omega)]; exact Table.get_of_le _ _ (by omega)

theorem input_at {s : State} {p : LogicalInput} (h : ∀ i < 14, s.input i = if i = 1 then p else {}) (i : Nat) :
    s.input i = if i = 1 then p else {} := by
  by_cases hi : i < 14
  · exact h i hi
  · obtain ⟨k, rfl⟩ : ∃ k, i = k + 14 := ⟨i - 14, by omega⟩
    rw [if_neg (by omega)]; exact Table.get_of_le _ _ (by omega)

theorem station_at {s : State} {y : Station} (h : ∀ i < 16, s.station i = if i = 0 then y else {}) (i : Nat) :
    s.station i = if i = 0 then y else {} := by
  by_cases hi : i < 16
  · exact h i hi
  · rw [if_neg (by omega)]; exact Table.get_of_le _ _ (by omega)

theorem group_at {s : State} (h : ∀ g < 8, (s.group g).defn = {}) (g : Nat) : (s.group g).defn = {} := by
  by_cases hg : g < 8
  · exact h g hg
  · rw [show s.group g = {} from Table.get_of_le _ _ (by omega)]

theorem prompt_at {s : State} (h : ∀ e < 4, (s.promptEntry e).defn = none) (e : Nat) : (s.promptEntry e).defn = none := by
  by_cases he : e < 4
  · exact h e he
  · rw [show s.promptEntry e = {} from Table.get_of_le _ _ (by omega)]

/-- A stored configuration of zone 1, channel 0, station 0 and logical input Z1. -/
def small (auto : Bool) : StoredConfig :=
  { settings := { autoStart := auto }
    zones := (Table.fill 12 none).set1 1 (some {})
    channels := (Table.fill 32 none).set 0 (some { served := [1], startTime := 1, priority := 0 })
    stations := (Table.fill 16 none).set 0 (some { kinds := [.temp] })
    inputs := (Table.fill 13 {}).set1 1 { primary := some ⟨0, 1⟩ } }

/-- A part whose store holds a configuration. -/
def stored (x : StoredConfig) : State := { State.reset with store := { configArea := some x, counterArea := some {} } }

/-- A part with the small configuration, as start-up forms it, is valid. -/
theorem small_valid {s : State}
    (h : (∀ c < 32, s.channel c =
        if c = 0 then channelStarted { served := [1], startTime := 1, priority := 0 } false false else {}) ∧
      (∀ n < 13, s.zone n = if n = 1 then freshZone {} else {}) ∧
      (∀ i < 16, s.station i = if i = 0 then freshStation { kinds := [.temp] } else {}) ∧
      (∀ i < 14, s.input i = if i = 1 then freshInput { primary := some ⟨0, 1⟩ } else {}) ∧
      (∀ e < 4, (s.promptEntry e).defn = none) ∧ (∀ g < 8, (s.group g).defn = {}) ∧ s.alloc.rotaLength = 0 ∧
      s.sel.pool = []) : s.Valid := by
  obtain ⟨hc, hz, hs, hi, he, hg, hr, hl⟩ := h
  refine valid_of (channel_at hc) (fun n => ?_) (fun n q => ?_) (station_at hs) (input_at hi) hr (prompt_at he) hl
    (group_at hg) ⟨rfl, rfl, by decide, rfl, rfl, by decide⟩ ⟨rfl, rfl⟩ rfl
  · rw [zone_at hz]; split <;> simp_all [freshZone]
  · rw [zone_at hz]; split <;> simp [freshZone]

/-- The start-up of `s` with the small configuration, auto-start on. -/
def started (s : State) (k : StartKind) : State :=
  s.standbyWith k (small true) .loaded .loaded (fun _ => false)
    (recordPair (recordStarted 168 none (some {})) (recordStarted 168 none (some {}))) 0

theorem started_valid : (started (stored (small true)) .powerOn).Valid := small_valid (by decide +kernel)

theorem next_of {o : Host.Outcome State Fault Refusal}
    (h : (match o with | .next _ => true | .fault _ => false | .refused _ => false) = true) : ∃ t, o = .next t := by
  cases o with
  | next t => exact ⟨t, rfl⟩
  | fault _ => cases h
  | refused _ => cases h

/-- The part in RUN with channel 0 alone. -/
def alone (x : Channel) (l : List Instr := []) : State := lab .run x {} l

theorem alone_channel (x : Channel) (l : List Instr) (c : Nat) : (alone x l).channel c = if c = 0 then x else {} := by
  rw [alone, lab_channel]; simp

def subject : Channel := { defined := true, defn := { served := [1], startTime := 1, priority := 0 } }
def waits : Channel := { subject with state := .waiting, own := true, combined := true }
def starts : Channel := { subject with state := .starting, own := true, combined := true, timer := some 0 }
def runs : Channel := { subject with state := .running, own := true, combined := true, timer := some 0 }

theorem alone_settled (x : Channel) (l : List Instr)
    (hx : x.defn.served = [1] ∧ x.defn.tOff < x.defn.tOn ∧ x.defn.ambientLow = none ∧
      x.defn.prerequisite = none ∧ x.drawn = false ∧ x.inhibit = false ∧
      x.combined = (x.defined && (x.own || x.prompt || x.exercise)))
    (hs : (x.state ≠ .idle ∨ x.combined = false) ∧ (x.state ≠ .waiting ∨ x.combined = true) ∧
      (x.state ≠ .running ∨ x.minOnExpired = false ∨ x.combined = true)) : (alone x l).Settled :=
  settled_of (alone_channel x l) rfl rfl hx hs

theorem alone_alone (x : Channel) (h : x.exercise = false ∧ x.defn.prerequisite = none) : (alone x).Alone 0 := by
  refine ⟨by rw [alone_channel]; exact h.1, fun d hd => ?_⟩
  rw [alone_channel] at hd ⊢
  split
  · rw [h.2]; simp
  · simp

theorem alone_order (x : Channel) (l : List Instr) (h : x.active = true) : (alone x l).GrantOrderExact := by
  have hg : (alone x l).chan.grantOrder = [0] := by simp only [alone, lab, h]; rfl
  refine ⟨by rw [hg]; decide, fun c => ?_⟩
  rw [hg, alone_channel]
  split
  · simp_all
  · simp_all [Channel.active]

theorem alone_priorities (x : Channel) (h : x.defn.priority ≤ 7) : (alone x []).PrioritiesInRange := by
  refine ⟨fun y hy _ => ?_, fun _ hx => ?_, fun _ hx => ?_⟩
  · obtain ⟨k, hk, rfl⟩ := List.getElem_of_mem hy
    have := alone_channel x [] k
    simp only [State.channel, Table.get, List.getD_eq_getElem?_getD, List.getElem?_eq_getElem hk, Option.getD_some] at this
    rw [this]; split
    · exact h
    · decide
  · simp [alone, lab, State.reset] at hx
  · simp [alone, lab, State.reset] at hx

theorem witness_StepRunsFrontCommand :
    ({ State.reset with pending := [.slotDecision, .replySent] } : State).pending = .slotDecision :: [.replySent] := rfl

theorem witness_EmptyQueueStepPassesTime :
    State.reset.pending = [] ∧ State.reset.phase = .operating ∧
    ({ State.reset with phase := .held } : State).pending = [] ∧ ({ State.reset with phase := .startUp } : State).pending = [] :=
  ⟨rfl, rfl, rfl, rfl⟩

theorem witness_EveryCommandHasANextState :
    ({ State.reset with phase := .held } : State).phase ≠ .operating ∧ Instr.faultSenseReport 31 true ≠ .powerOn ∧
    Instr.faultSenseReport 31 true ≠ .undervoltage ∧ Instr.faultSenseReport 31 true ≠ .restartReinitialisation := by decide

/-- Both queues at their limits, and a free transmitter at which nothing waits. -/
theorem witness_QueuesKeepTheirBounds :
    let s : State :=
      { State.reset with
        link := { requests := List.replicate 4 ⟨0x20, 1, []⟩, notices := List.replicate 16 (.channelLatched 0) }
        pending := [.status 1] }
    let u : State := { State.reset with link := {}, pending := [.channelDefRemove 1 0] }
    s.QueueBounds ∧ (∃ t, step s = .next t) ∧ u.NothingWaits ∧ u.phase = .operating ∧ u.link.tx = .idle ∧
    ∃ t, step u = .next t :=
  ⟨by unfold State.QueueBounds; decide, next_of (by decide +kernel), fun _ _ => ⟨rfl, rfl⟩, rfl, rfl, next_of (by decide +kernel)⟩

/-- Zone 3 at the integral's and the demand's limits. -/
theorem witness_DemandsKeepTheirBounds :
    let s : State :=
      { computing { zoneThree with integral := 64000, demand := -1000 } 214 with pending := [.zoneSweepCompletion] }
    s.DemandBounds ∧ ∃ t, step s = .next t :=
  ⟨by unfold State.DemandBounds Zone.InBounds; decide +kernel, next_of (by decide +kernel)⟩

/-- A group at minus its capacity, with a channel to charge. -/
theorem witness_CreditKeepsItsBounds :
    let s : State :=
      { allotting [(0, heater 120 .running true)] 800 [0] { credit := -16000 } with pending := [.slotDecision] }
    s.CreditBounds ∧ ∃ t, step s = .next t :=
  ⟨by unfold State.CreditBounds; decide +kernel, next_of (by decide +kernel)⟩

theorem alone_quiet (x : Channel) (l : List Instr) : (alone x l).Quiet := by
  intro _ y _ _
  refine ⟨fun h => ?_, fun h => ?_⟩
  · have h' : PartMode.run = .standby := h
    cases h'
  · have h' : PartMode.run = .windDown := h
    cases h'

theorem alone_over (x : Channel) (l : List Instr) (f : Channel → Nat) : (alone x l).over f = f x + 31 * f {} := by
  have h : ∀ n, ((List.range (n + 1)).map (fun c => f (if c = 0 then x else {}))).sum = f x + n * f {} := by
    intro n
    induction n with
    | zero => simp
    | succ n ih => rw [List.range_succ, List.map_append, List.sum_append, ih]; simp; ring
  simp only [State.over, alone_channel]
  exact h 31

/-- A STARTING channel on the grant order list, and its start expiry. -/
theorem witness_GrantOrderHoldsTheActive :
    let s : State := alone starts [.startTimerExpiry 0]
    (∃ t, step s = .next t) ∧ s.Quiet ∧ s.GrantOrderExact :=
  ⟨next_of (by decide +kernel), alone_quiet _ _, alone_order starts _ rfl⟩

/-- A RUNNING channel of rated current 4000, the whole peak of its group. -/
theorem witness_GroupsKeepWithinTheirPeaks :
    let s : State := alone { runs with defn := { runs.defn with rated := 4000 } } [.slotDecision]
    (s.Quiet ∧ s.WithinPeaks) ∧ ∃ t, step s = .next t := by
  refine ⟨⟨alone_quiet _ _, fun g => ?_, fun c hd hs => ?_⟩, next_of (by decide +kernel)⟩
  · rw [alone_over, group_at (by decide +kernel) g]
    by_cases h : 0 = g
    · subst h; decide
    · simp [runs, subject, h]
  · rw [alone_channel] at hs
    split at hs <;> cases hs

/-- Input 1 on pool point 0. -/
theorem witness_PoolPointsAreLentOnce :
    let s : State :=
      { State.reset with
        sel := { inputs := State.reset.sel.inputs.set1 1 { defn := { primary := some ⟨0, 1⟩ }, state := .substituted, source := .pool 0 }
                 pool := [⟨1, 1⟩, ⟨1, 2⟩], freeList := [1], candidates := [1] }
        pending := [.poolDef 1 []] }
    s.PoolLent ∧ ∃ t, step s = .next t := by
  refine ⟨⟨by decide, by decide, fun i h1 h2 => ?_, by decide +kernel⟩, next_of (by decide +kernel)⟩
  refine ⟨?_, ?_, ?_, fun k hk => ?_⟩
  · revert i; decide +kernel
  · revert i; decide +kernel
  · revert i; decide +kernel
  · have hi : i = 1 ∧ k = 0 := by
      by_cases h : i = 1
      · subst h; cases hk; exact ⟨rfl, rfl⟩
      · exfalso
        have : ∀ i, 1 ≤ i → i ≤ 13 → i ≠ 1 →
            (State.input { State.reset with
              sel := { inputs := State.reset.sel.inputs.set1 1
                         { defn := { primary := some ⟨0, 1⟩ }, state := .substituted, source := .pool 0 }
                       pool := [⟨1, 1⟩, ⟨1, 2⟩], freeList := [1], candidates := [1] }
              pending := [.poolDef 1 []] } i).source = .primary := by decide +kernel
        rw [this i h1 h2 h] at hk; cases hk
    obtain ⟨rfl, rfl⟩ := hi
    refine ⟨by decide, ?_⟩
    decide +kernel

theorem witness_CombinedRequestsStandFormed :
    let s : State := alone waits [.slotDecision]
    s.RequestsFormed ∧ ∃ t, step s = .next t :=
  ⟨(alone_settled waits _ (by decide) (by decide)).1, next_of (by decide +kernel)⟩

/-- Channel 0 STARTING over its prerequisite, channel 1, RUNNING. -/
theorem witness_PrerequisitesRunUnderDependents :
    let s : State := lab .run { starts with defn := { starts.defn with prerequisite := some 1 } } runs [.slotDecision]
    (s.Quiet ∧ s.PrerequisitesRun) ∧ ∃ t, step s = .next t := by
  refine ⟨⟨fun _ _ _ _ => ⟨fun h => ?_, fun h => ?_⟩, fun _ c q _ hq => ?_⟩, next_of (by decide +kernel)⟩
  · have h' : PartMode.run = .standby := h
    cases h'
  · have h' : PartMode.run = .windDown := h
    cases h'
  · rw [lab_channel] at hq
    split at hq
    · cases hq; rw [lab_channel]; exact ⟨rfl, rfl⟩
    · split at hq <;> cases hq

/-- The configurations a power-on finds: none, one that fails, and a valid one; and a part held in reset. -/
theorem witness_PowerOnLoadsTheStore :
    ¬ (State.reset.settings.autoStart = true) ∧ State.reset.store.configArea = none ∧
    (small true).settings.autoStart = true ∧ (stored (small true)).store.configArea.isSome = true ∧
    (started (stored (small true)) .powerOn).Valid ∧
    ¬ ((stored { settings := { autoStart := true } }).standbyWith .powerOn { settings := { autoStart := true } } .loaded .loaded
      (fun _ => false) (recordPair (recordStarted 168 none (some {})) (recordStarted 168 none (some {}))) 0).Valid ∧
    (State.reset.supplyLost).phase = .held := by
  refine ⟨by decide, rfl, rfl, rfl, started_valid, fun h => ?_, rfl⟩
  obtain ⟨⟨n, hn⟩, -⟩ := h
  have : ∀ n < 13, (State.zone ((stored { settings := { autoStart := true } }).standbyWith .powerOn
      { settings := { autoStart := true } } .loaded .loaded (fun _ => false)
      (recordPair (recordStarted 168 none (some {})) (recordStarted 168 none (some {}))) 0) n) = if n = 1 then {} else {} := by
    decide +kernel
  rw [zone_at this] at hn
  simp at hn

/-- A part in start-up, with a valid configuration in its store, and with a kept one that fails. -/
def restarting (auto keep : Bool) : State :=
  { stored (small true) with phase := .startUp, settings := { autoStart := auto, keepOnRestart := keep } }

theorem witness_RestartReinitialises :
    State.reset.phase ≠ .startUp ∧ (restarting false true).phase = .startUp ∧
    (restarting false true).asStored.settings.autoStart = false ∧ (restarting true false).phase = .startUp ∧
    (restarting true false).store.configArea = some (small true) ∧
    ((restarting true false).standbyWith .restart (small true) .loaded .kept
      (fun c => ((restarting true false).channel c).defined && decide (((restarting true false).channel c).state = .latched))
      (recordPair (recordCarried 168 none ((restarting true false).exerciseRecord 0))
        (recordCarried 168 none ((restarting true false).exerciseRecord 1))) 0).Valid ∧
    (restarting true true).asStored.settings.autoStart = true ∧
    ¬ ((restarting true true).standbyWith .restart (restarting true true).asStored .kept .kept
      (fun c => ((restarting true true).channel c).defined && decide (((restarting true true).channel c).state = .latched))
      (recordPair (recordCarried 168 none ((restarting true true).exerciseRecord 0))
        (recordCarried 168 none ((restarting true true).exerciseRecord 1))) 0).Valid := by
  refine ⟨by decide, rfl, rfl, rfl, rfl, small_valid (by decide +kernel), rfl, fun h => ?_⟩
  obtain ⟨⟨n, hn⟩, -⟩ := h
  have : ∀ n < 13, (State.zone ((restarting true true).standbyWith .restart (restarting true true).asStored .kept .kept
      (fun c => ((restarting true true).channel c).defined && decide (((restarting true true).channel c).state = .latched))
      (recordPair (recordCarried 168 none ((restarting true true).exerciseRecord 0))
        (recordCarried 168 none ((restarting true true).exerciseRecord 1))) 0) n) = if n = 1 then {} else {} := by
    decide +kernel
  rw [zone_at this] at hn
  simp at hn

/-- Chapter 8, R164 and R176: a RESTART keeps a running retry timer, though the interval in force is above the idle hours. -/
theorem test_restart_keeps_the_retry_timer :
    let x := recordKept 400 (some 8) { bound := some 8, idleHours := 200, due := true, retry := some 9 }
    (x.bound, x.idleHours, x.due, x.retry) = (some 8, 200, false, some 9) := by decide

/-- A part with the given transmitter and request queue. -/
def linked (tx : Transmitter) (q : List Frame) : State := { State.reset with link := { tx := tx, requests := q } }

def doneReply (kind : Nat) : Reply := ⟨kind, 1, .done, .nothing⟩

/-- Queues of 1, 2 and 4 behind a reply, the second frame a request, a STATUS, of unknown kind, and a SUPPLY of 2 characters. -/
theorem witness_ReplySentEndsTheRequest :
    let sent := fun (q : List Frame) => linked (.reply (doneReply 0x20)) (frameOf (.status 1) :: q)
    let rest : List Frame := [⟨1, 1, []⟩, ⟨1, 1, []⟩]
    (linked .idle []).phase = .operating ∧ (∀ q, (linked .idle []).link.tx ≠ .reply q) ∧
    (sent []).link.tx = .reply (doneReply 0x20) ∧ ¬ ((doneReply 0x20).kind = 0x1A ∧ (doneReply 0x20).code = .done) ∧
    (sent []).link.requests.length ≤ 1 ∧ (Instr.sweepNow 2).wellFormed = true ∧ (Instr.sweepNow 2).isRequest = true ∧
    (∀ tag, Instr.sweepNow 2 ≠ .status tag) ∧ (Instr.status 2).wellFormed = true ∧
    (sent (frameOf (.sweepNow 2) :: rest)).link.requests = frameOf (.status 1) :: frameOf (.sweepNow 2) :: rest ∧
    (sent (frameOf (.status 2) :: rest)).link.requests = frameOf (.status 1) :: frameOf (.status 2) :: rest ∧
    (sent (⟨0x17, 2, []⟩ :: rest)).link.requests = frameOf (.status 1) :: ⟨0x17, 2, []⟩ :: rest ∧
    (sent (⟨0x11, 2, [0, 0]⟩ :: rest)).link.requests = frameOf (.status 1) :: ⟨0x11, 2, [0, 0]⟩ :: rest ∧
    requestKinds.contains 0x17 = false ∧ requestKinds.contains 0x11 = true ∧ wrongLength 0x11 [0, 0] = true ∧
    (linked (.reply (doneReply 0x1A)) [frameOf (.restart 1)]).link.tx = .reply (doneReply 0x1A) ∧
    (doneReply 0x1A).kind = 0x1A ∧ (doneReply 0x1A).code = .done :=
  ⟨rfl, fun _ h => Transmitter.noConfusion h, rfl, by decide, by decide, rfl, rfl, fun _ h => Instr.noConfusion h, rfl, rfl, rfl, rfl,
    rfl, rfl, rfl, rfl, rfl, rfl, rfl⟩

/-- Chapter 10, R186: with a notice waiting and a second request behind the reply that ends, the notice is sent next, and the second
reply waits for it. -/
theorem test_notice_between_replies :
    let s : State :=
      { State.reset with link := { tx := .reply (doneReply 0x20), requests := [frameOf (.status 1), frameOf (.start 2)]
                                   notices := [.channelLatched 3, .channelLatched 4] } }
    let t := after .replySent s
    t.link.tx = .notice (.channelLatched 3) ∧ t.link.requests = [frameOf (.start 2)] ∧
    t.link.ready.map Reply.tag = some 2 ∧ t.link.notices = [.channelLatched 4] ∧
    (after .noticeSent t).link.tx ≠ .notice (.channelLatched 4) := by decide +kernel

/-- The transmitter free and not, with a reply, a notice and nothing to send, and queues of 3, where a frame joins, and of 4, where it
is discarded. -/
theorem witness_LinkSendsAndQueues :
    let ready : State := { State.reset with link := { ready := some (doneReply 1) } }
    let supplied := ({} : State).supplyLost.powerUp
    (linked (.notice (.channelLatched 0)) []).link.tx ≠ .idle ∧ ready.link.ready = some (doneReply 1) ∧ ready.link.tx = .idle ∧
    (linked .idle []).link.ready = none ∧ (linked .idle []).link.tx = .idle ∧ (linked .idle []).link.notices = [] ∧
    supplied.link.ready = none ∧ supplied.link.tx = .idle ∧
    supplied.link.notices = .storeFault .configuration .badChecksum :: [.storeFault .counter .badChecksum] ∧
    (linked (.notice (.channelLatched 0)) []).link.tx = .notice (.channelLatched 0) ∧
    (∀ m, (linked .idle []).link.tx ≠ .notice m) ∧ (Instr.status 2).isRequest = true ∧
    (linked .idle (List.replicate 3 ⟨1, 1, []⟩)).phase = .operating ∧
    (linked .idle (List.replicate 3 ⟨1, 1, []⟩)).link.requests = ⟨1, 1, []⟩ :: List.replicate 2 ⟨1, 1, []⟩ ∧
    (linked .idle (List.replicate 4 ⟨1, 1, []⟩)).link.requests = ⟨1, 1, []⟩ :: List.replicate 3 ⟨1, 1, []⟩ :=
  ⟨by decide, rfl, rfl, rfl, rfl, rfl, by decide +kernel, by decide +kernel, by decide +kernel, rfl,
    fun _ h => Transmitter.noConfusion h, rfl, rfl, rfl, rfl⟩

/-- Chapter 10, R186 and R170: after a power-on that finds both areas bad, the first STORE-FAULT is in transmission before any command,
and a reply formed meanwhile goes before the second. -/
theorem test_store_fault_first :
    let t := after .powerOn ({} : State).supplyLost
    let u := after .replySent (after .noticeSent (after (.status 1) t))
    t.link.tx = .notice (.storeFault .configuration .badChecksum) ∧
    (after (.status 1) t).link.tx = t.link.tx ∧ (after .noticeSent (after (.status 1) t)).link.tx ≠ t.link.tx ∧
    u.link.tx = .notice (.storeFault .counter .badChecksum) := by decide +kernel

/-- The lengths 1 and 59, a body of 57, and an empty body with a check that does not match. -/
theorem witness_FaultyFramesAreDiscarded :
    State.reset.phase = .operating ∧ ({ State.reset with phase := .held } : State).phase ≠ .operating ∧
    (1 < 2 ∨ 58 < 1) ∧ (59 < 2 ∨ 58 < 59) ∧ 56 < (List.replicate 57 (0 : Byte)).length ∧ ([] : List Byte).length ≤ 56 ∧
    (0 : BitVec 16) ≠ crc (BitVec.ofNat 8 (([] : List Byte).length + 2) :: 0x20 :: 0x01 :: []) := by decide +kernel

/-- A STATION-DEF of 49 point kinds, whose body is 56 bytes. -/
theorem witness_ValidFrameIsTaken :
    ∃ body : List Byte,
      (Instr.stationDef 1 { goodStation with kinds := List.replicate 49 0 }).wellFormed = true ∧
      encodeRequest (.stationDef 1 { goodStation with kinds := List.replicate 49 0 }) =
        some ((0x07 : Byte).toNat, (0x01 : Byte).toNat, body) ∧ body.length ≤ 56 ∧ State.reset.phase = .operating :=
  ⟨_, by decide +kernel, rfl, by decide +kernel, rfl⟩

/-- The part right after reset is ready for a request, in STANDBY. This is the witness of the statements whose one hypothesis is
Ready: ZoneDefReplacesTheZone, GroupDefReplacesTheGroup, PromptAndStationDefsReplace, PoolDefReplacesThePool,
ZoneSetpointCommandsTheZone, SupplySetsTheValuesInForce, StatusAndConfigurationAreRead and ReportsAnswerTheState; the next two theorems
are theirs in RUN and FALLBACK. -/
theorem witness_ready : State.reset.Ready ∧ State.reset.atTaking.ctl.mode = .standby := ⟨⟨rfl, rfl⟩, rfl⟩

/-- A part in RUN is ready for a request. -/
theorem witness_ready_in_run (x : Channel) (l : List Instr) : (alone x l).Ready ∧ (alone x l).atTaking.ctl.mode = .run :=
  ⟨⟨rfl, rfl⟩, rfl⟩

/-- A part in FALLBACK is ready for a request, and is in RUN at its taking. -/
theorem witness_ready_in_fallback : (lab .fallback subject {}).Ready ∧ (lab .fallback subject {}).atTaking.ctl.mode = .run :=
  ⟨⟨rfl, rfl⟩, rfl⟩

/-- STANDBY with channel 0 at rest and bound to record 0. -/
def resting : State := lab .standby subject {}

theorem resting_channel (c : Nat) : resting.channel c = if c = 0 then subject else {} := by
  rw [resting, lab_channel]; simp

theorem witness_PartSettingsReplacesEverySetting :
    resting.Ready ∧ resting.atTaking.ctl.mode = .standby ∧
    firstBad [(1, within 0 4000 4001), (2, within 0 8 9)] = some 1 ∧ firstBad [(1, within 0 4000 4000)] = none ∧
    (∀ c, (resting.channel c).active = false) ∧
    (∀ c, (resting.channel c).combined = false ∧ (resting.channel c).drawn = false ∧ (resting.channel c).state ≠ .waiting ∧
      (resting.channel c).state.drawing = false) ∧
    (resting.exerciseRecord 0).bound = some 0 ∧ (resting.exerciseRecord (1 - 0)).bound ≠ some 0 ∧
    (resting.channel 0).defined = true := by
  refine ⟨⟨rfl, rfl⟩, rfl, by decide, by decide, fun c => ?_, fun c => ?_, rfl, by decide, rfl⟩
  · rw [resting_channel]; split <;> decide
  · rw [resting_channel]; split <;> decide

/-- A definition with an ambient window taken with an outside value at hand, its refusal, and the removal's three cases. -/
theorem witness_ChannelDefReplacesTheChannel :
    let s : State := { resting with chan := { resting.chan with ambientStatus := .valid, ambientValue := 50 } }
    s.Ready ∧ s.atTaking.ctl.mode = .standby ∧ s.atTaking.chan.ambientStatus ≠ .expired ∧
    firstBad (channelChecks { goodChannel with ambientLow := some 50 }) = none ∧
    firstBad (channelChecks { goodChannel with channel := 32 }) = some 1 ∧
    (s.atTaking.channel 0).defined = true ∧ (s.atTaking.channel 31).defined = false ∧ 31 < 32 := by
  refine ⟨⟨rfl, rfl⟩, rfl, ?_, ?_, ?_, rfl, rfl, ?_⟩ <;> decide

theorem witness_RotaLoadWritesTheRota :
    firstBad [(1, within 0 64 64), (2, within 0 63 16), (3, within 0 48 48 && decide (16 + 48 ≤ 64)), (4, true)] = none ∧
    firstBad [(1, within 0 64 64), (2, within 0 63 17), (3, within 0 48 48 && decide (17 + 48 ≤ 64)), (4, true)] = some 3 := by
  decide

/-- A free list in order, an input on a pool point, and the removal's cases at inputs 1, 13 and 14. -/
theorem witness_InputDefReplacesTheInput :
    let s : State :=
      { State.reset with
        sel := { inputs := State.reset.sel.inputs.set1 1 { defn := { primary := some ⟨0, 1⟩ }, state := .substituted, source := .pool 1 }
                 pool := [⟨1, 1⟩, ⟨1, 2⟩, ⟨1, 3⟩], freeList := [0, 2], candidates := [1] } }
    s.Ready ∧ s.atTaking.ctl.mode = .standby ∧ s.atTaking.sel.freeList.Pairwise (· < ·) ∧
    (s.atTaking.input 1).source = .pool 1 ∧ (s.atTaking.input 1).defn.primary ≠ none ∧
    (s.atTaking.input 13).defn.primary = none ∧ (14 < 1 ∨ 13 < 14) ∧
    firstBad [(1, within 1 13 13), (2, true)] = none ∧ firstBad [(1, within 1 13 14), (2, true)] = some 1 := by
  refine ⟨⟨rfl, rfl⟩, rfl, ?_, rfl, ?_, rfl, ?_, ?_, ?_⟩ <;> decide

/-- Channel 0 of rated current 800, the ceiling, and of 801. -/
def loads (rated priority : Nat) : Channel := { runs with defn := { runs.defn with rated := rated, priority := priority } }

theorem loads_below (rated : Nat) (c : Nat) (h : ((alone (loads rated 3)).channel c).active = true) :
    ((alone (loads rated 3)).channel c).defn.priority < min 8 4 := by
  rw [alone_channel] at h ⊢
  split
  · show 3 < min 8 4
    decide
  · rename_i hc; rw [if_neg hc] at h; cases h

/-- A SUPPLY of ceiling 800 and threshold 4 over a channel of priority 3: at 800 it stays, at 801 it alone is released; over one of
priority 4 it is released by the threshold. -/
theorem witness_ForcedReleaseSheds :
    (alone (loads 800 3)).Ready ∧ (alone (loads 800 3)).atTaking.ctl.mode = .run ∧ (alone (loads 800 3)).GrantOrderExact ∧
    (alone (loads 800 3)).PrioritiesInRange ∧
    (∀ c, ((alone (loads 800 3)).channel c).active = true → ((alone (loads 800 3)).channel c).defn.priority < min 8 4) ∧
    (alone (loads 800 3)).over Channel.draws ≤ 800 ∧ (alone (loads 801 3)).ShedFirst 0 ∧ (alone (loads 801 3)).Alone 0 ∧
    ¬ (alone (loads 801 3)).over Channel.draws ≤ 800 ∧ min 8 4 ≤ ((alone (loads 800 4)).channel 0).defn.priority ∧
    (∀ d, d ≠ 0 → ((alone (loads 800 4)).channel d).active = true →
      ((alone (loads 800 4)).channel d).defn.priority < min 8 4) := by
  refine ⟨⟨rfl, rfl⟩, rfl, alone_order _ _ rfl, alone_priorities _ (by decide), loads_below 800, ?_, ⟨rfl, fun d hd h => ?_⟩,
    alone_alone _ ⟨rfl, rfl⟩, ?_, by decide, fun d hd h => ?_⟩
  · rw [alone_over]; decide
  · rw [alone_channel, if_neg hd] at h; cases h
  · rw [alone_over]; decide
  · rw [alone_channel, if_neg hd] at h; cases h

/-- `s` with door group 1 open, or with its entry's run-on 5 s. -/
def opened (s : State) : State := { s with doors := s.doors.set1 1 { isOpen := true, limitTimer := some 0 } }
def runsOn (s : State) : State :=
  { s with alloc := { s.alloc with prompts := s.alloc.prompts.set 0 { defn := some ⟨0, 1, 5⟩ } } }

/-- A closing with a run-on of 5 s; and with one of 0 over a channel that is released, that waits and that its own request holds. -/
theorem witness_DoorClosingEndsTheHolds :
    let prompted : Channel := { runs with own := false, prompt := true, minOnExpired := true, timer := none }
    let queued : Channel := { subject with state := .waiting, prompt := true, combined := true }
    (alone runs).Ready ∧ (alone runs).atTaking.ctl.mode = .run ∧ ((alone runs).atTaking.doorGroup 4).isOpen = decide (0 = 1) ∧
    ((opened (alone runs)).atTaking.doorGroup 1).isOpen = true ∧ (runsOn (opened (alone runs))).Ready ∧
    (runsOn (opened (alone runs))).atTaking.Settled ∧
    (∀ e, e < 4 → ((runsOn (opened (alone runs))).atTaking.promptEntry e).defn.map PromptDef.runOn ≠ some 0) ∧
    ((opened (alone runs)).atTaking.promptEntry 0).defn = some ⟨0, 1, 0⟩ ∧
    (∀ k, k < 4 → k ≠ 0 → ((opened (alone runs)).atTaking.promptEntry k).defn = none) ∧
    (opened (alone runs)).atTaking.Settled ∧ (alone runs).Alone 0 ∧ runs.own = true ∧
    (opened (alone prompted)).atTaking.Settled ∧ (alone prompted).Alone 0 ∧ prompted.combined = true ∧ prompted.minOnExpired = true ∧
    (opened (alone queued)).atTaking.Settled ∧ (alone queued).Alone 0 ∧ queued.state = .waiting := by
  refine ⟨⟨rfl, rfl⟩, rfl, rfl, rfl, ⟨rfl, rfl⟩, settled_of (alone_channel runs []) rfl rfl (by decide) (by decide), ?_, rfl, ?_,
    settled_of (alone_channel runs []) rfl rfl (by decide) (by decide), alone_alone _ ⟨rfl, rfl⟩, rfl,
    settled_of (alone_channel _ []) rfl rfl (by decide) (by decide), alone_alone _ ⟨rfl, rfl⟩, rfl, rfl,
    settled_of (alone_channel _ []) rfl rfl (by decide) (by decide), alone_alone _ ⟨rfl, rfl⟩, rfl⟩ <;> decide +kernel

/-- Section 5.4: at a closing with run-on 0 the channel past its minimum on is released at the closing itself. -/
theorem test_closing_without_run_on :
    let t := after (.door 3 1 0) (opened (alone { runs with own := false, prompt := true, minOnExpired := true, timer := none }))
    (t.channel 0).state = .idle ∧ (t.channel 0).prompt = false ∧ t.chan.grantOrder = [] ∧
    (t.link.tx, (t.doorGroup 1).isOpen) = (.reply ⟨0x12, 3, .done, .door 1 false 0 0⟩, false) := by decide +kernel

theorem witness_DoorOpeningHoldsAndPrompts :
    (alone waits).Ready ∧ (alone waits).atTaking.ctl.mode = .run ∧ ((alone waits).doorGroup 1).isOpen = false ∧
    ((alone waits).doorGroup 4).isOpen = false ∧ (alone waits).atTaking.Settled ∧
    (∀ c, ((alone waits).atTaking.channel c).sense = true → ((alone waits).atTaking.channel c).exercise = false) := by
  refine ⟨⟨rfl, rfl⟩, rfl, rfl, rfl, alone_settled _ _ (by decide) (by decide), fun c _ => ?_⟩
  show ((alone waits).channel c).exercise = false
  rw [alone_channel]; split <;> rfl

/-- The part of one WAITING prompt channel with the given surge and rated current, threshold and credit. -/
def offered (surge rated threshold : Nat) (credit : Int) : State :=
  let s := alone { waits with defn := { waits.defn with surge := surge, rated := rated } }
  { s with
    alloc := { s.alloc with
      ceiling := 4000, threshold := threshold, groups := s.alloc.groups.set 0 { credit := credit } } }

theorem offered_settled (surge rated threshold : Nat) (credit : Int) : (offered surge rated threshold credit).atTaking.Settled :=
  settled_of (alone_channel { waits with defn := { waits.defn with surge := surge, rated := rated } } []) rfl rfl
    ⟨rfl, (by decide : 0 < 1), rfl, rfl, rfl, rfl, rfl⟩
    ⟨.inl (by decide : ChannelState.waiting ≠ .idle), .inr rfl, .inl (by decide : ChannelState.waiting ≠ .running)⟩

/-- The four outcomes at their boundaries: surge 400 on a credit of -15600, and of -15601; a figure of 4001; threshold 0. -/
theorem witness_PromptGrantNeedsEveryTest :
    (offered 400 4000 8 (-15600)).Ready ∧ (offered 400 4000 8 (-15600)).atTaking.ctl.mode = .run ∧
    ((offered 400 4000 8 (-15600)).doorGroup 1).isOpen = false ∧ (offered 400 4000 8 (-15600)).atTaking.Settled ∧
    ((offered 400 4000 8 (-15600)).promptEntry 0).defn = some ⟨0, 1, 0⟩ ∧
    (∀ k, k < 4 → k ≠ 0 → ((offered 400 4000 8 (-15600)).promptEntry k).defn.map PromptDef.doorGroup ≠ some 1) ∧
    ((offered 400 4000 8 (-15600)).channel 0).defined = true ∧ ((offered 400 4000 8 (-15600)).channel 0).state = .waiting ∧
    ((offered 400 4000 8 (-15600)).channel 0).sense = false ∧ ((offered 400 4000 8 (-15600)).channel 0).defn.prerequisite = none ∧
    (offered 400 4000 8 (-15600)).over Channel.draws + 400 ≤ 4000 ∧
    max 400 4000 ≤ ((offered 400 4000 8 (-15600)).group 0).defn.peak ∧
    -((4000 * 4 : Nat) : Int) ≤ ((offered 400 4000 8 (-15600)).group 0).credit - 400 ∧
    ¬ -((4000 * 4 : Nat) : Int) ≤ ((offered 400 4000 8 (-15601)).group 0).credit - 400 ∧
    ¬ max 400 4001 ≤ ((offered 400 4001 8 0).group 0).defn.peak ∧
    ¬ ((offered 400 4000 0 0).channel 0).defn.priority < (offered 400 4000 0 0).alloc.threshold ∧
    (offered 400 4000 8 (-15601)).atTaking.Settled ∧ (offered 400 4001 8 0).atTaking.Settled ∧
    (offered 400 4000 0 0).atTaking.Settled ∧ (alone { subject with sense := true }).atTaking.Settled ∧
    ((alone { subject with sense := true }).channel 0).state = .idle ∧ subject.inhibit = false ∧ subject.defn.prerequisite = none ∧
    ((alone { subject with sense := true }).channel 0).sense = true ∧ subject.exercise = false := by
  refine ⟨⟨rfl, rfl⟩, rfl, rfl, offered_settled _ _ _ _, rfl, ?_, rfl, rfl, rfl, rfl, ?_, ?_, ?_, ?_, ?_, ?_,
    offered_settled _ _ _ _, offered_settled _ _ _ _, offered_settled _ _ _ _,
    alone_settled _ _ (by decide) (by decide), rfl, rfl, rfl, rfl, rfl⟩ <;> decide +kernel

/-- R41 and R47: an opening grants an IDLE channel with its fault-sense input ASSERTED, and the grant faults it. -/
theorem test_prompt_grant_of_an_asserted_channel :
    let t := after (.door 3 1 1) (alone { subject with sense := true })
    (t.channel 0).state = .faulted ∧ (t.channel 0).faults = 1 ∧ (t.channel 0).timer = some 30000 ∧ t.chan.grantOrder = [] ∧
    t.link.tx = .reply ⟨0x12, 3, .done, .door 1 true 1 0⟩ := by decide +kernel

theorem witness_ClearFaultAndSweepNow :
    (alone runs).Ready ∧ (alone runs).atTaking.ctl.mode = .run ∧ (alone runs).atTaking.line.inFlight = none ∧
    (computing zoneThree 0).Ready ∧ (computing zoneThree 0).atTaking.line.inFlight ≠ none :=
  ⟨⟨rfl, rfl⟩, rfl, rfl, ⟨rfl, rfl⟩, by decide⟩

/-- A valid part in STANDBY; one without zones; one with a zone and no channel; and one whose channel serves an undefined zone. -/
theorem witness_StartValidates :
    (started (stored (small true)) .powerOn).Ready ∧ (started (stored (small true)) .powerOn).atTaking.ctl.mode = .standby ∧
    (started (stored (small true)) .powerOn).atTaking.Quiet ∧ (started (stored (small true)) .powerOn).atTaking.Valid ∧
    (∀ n, (State.reset.atTaking.zone n).defined = false) ∧ ¬ State.reset.atTaking.Valid ∧
    (∃ n, ((computing zoneThree 0).zone n).defined = true) ∧ (∀ c, ((computing zoneThree 0).channel c).defined = false) ∧
    ¬ resting.atTaking.Valid ∧ (∃ n, (resting.atTaking.zone n).defined = true) ∧
    (∃ c, (resting.atTaking.channel c).defined = true) := by
  have hz : ∀ n, State.reset.zone n = if n = 1 then {} else {} := zone_at (by decide +kernel)
  have hc : ∀ c, (computing zoneThree 0).channel c = if c = 0 then {} else {} := channel_at (by decide +kernel)
  refine ⟨⟨rfl, rfl⟩, rfl, ?_, started_valid, fun n => ?_, fun h => ?_, ⟨3, rfl⟩, fun c => ?_, fun h => ?_, ⟨1, rfl⟩, ⟨0, rfl⟩⟩
  · unfold State.Quiet; decide +kernel
  · show (State.reset.zone n).defined = false
    rw [hz]; simp
  · obtain ⟨⟨n, hn⟩, -⟩ := h
    change (State.reset.zone n).defined = true at hn
    rw [hz] at hn; simp at hn
  · rw [hc]; simp
  · have := (h.2.2.2.2.2.2.2.2.1 1 (by decide) (by decide)).1 (by decide) rfl
    exact this rfl

theorem witness_StopWindsDown :
    (alone runs).Ready ∧ (alone runs).atTaking.ctl.mode = .run ∧ ((alone runs).atTaking.channel 0).defined = true ∧
    (alone runs).GrantOrderExact ∧ (∀ c, ((alone runs).channel c).active = true → ((alone runs).channel c).exercise = false) ∧
    (alone runs).link.notices.length < 16 ∧ resting.Ready ∧ resting.atTaking.ctl.mode ≠ .run := by
  refine ⟨⟨rfl, rfl⟩, rfl, rfl, alone_order _ _ rfl, fun c _ => ?_, by decide, ⟨rfl, rfl⟩, by decide⟩
  rw [alone_channel]; split <;> rfl

theorem witness_RestartAndSaveAreTaken :
    State.reset.Ready ∧ State.reset.atTaking.ctl.mode ≠ .windDown ∧ State.reset.atTaking.store.write = .idle ∧
    (lab .windDown {} {}).atTaking.ctl.mode = .windDown ∧
    ({ State.reset with store := { write := .checkpoint {} } } : State).atTaking.store.write ≠ .idle :=
  ⟨⟨rfl, rfl⟩, by decide, rfl, rfl, by decide⟩

/-- An unknown kind, and 11 hexadecimal with a body of 2. -/
theorem witness_UnknownAndMalformedAreRefused :
    State.reset.Ready ∧ (List.replicate 56 (0 : Byte)).length ≤ 56 ∧ requestKinds.contains (0x17 : Byte).toNat = false ∧
    requestKinds.contains (0x11 : Byte).toNat = true ∧ ([0, 0] : List Byte).length ≠ 3 := ⟨⟨rfl, rfl⟩, by decide⟩

/-- A part whose sweep in flight has the poll `p` outstanding, or none. -/
def polling (stage : SweepStage) (p : Option Poll) : State :=
  { computing zoneThree 0 with line := { sweepTimer := some 0, inFlight := some { kind := .periodic, stage := stage, poll := p } } }

def reading : Poll := { station := 0, kind := .read, address := 30, points := 1, second := true }
def writing : Poll := { station := 0, kind := .write 210 .auto, address := 30, points := 0, second := true }

theorem nil_is_no_reply : ¬ reading.Answered [] := by
  rintro ⟨v, h, -⟩
  exact absurd (congrArg List.length h) (by simp [readReply, u8])

theorem witness_SweepStartsAndPollsRepeat :
    ({ State.reset with line := { sweepTimer := none } } : State).line.sweepTimer = none ∧ State.reset.line.sweepTimer ≠ none ∧
    State.reset.line.inFlight = none ∧ (polling .polling (some reading)).line.sweepTimer ≠ none ∧
    (polling .polling (some reading)).line.inFlight ≠ none ∧ (∀ w, (polling .selector none).line.inFlight = some w → w.poll = none) ∧
    (polling .polling (some reading)).phase = .operating ∧ reading.address ≤ 30 ∧ { reading with second := false }.second = false ∧
    ¬ reading.Answered [] ∧ { reading with disowned := true }.disowned = true ∧ reading.second = true := by
  refine ⟨rfl, by decide, rfl, by decide, by decide, fun w h => ?_, rfl, by decide, rfl, nil_is_no_reply, rfl, rfl⟩
  cases h; rfl

/-- A reply of one point with the value 850, and no reply. -/
theorem witness_ReadPollsBringTheSamples :
    (polling .polling (some reading)).line.inFlight = some { kind := .periodic, poll := some reading } ∧ reading.kind = .read ∧
    reading.disowned = false ∧ reading.points ≤ [850].length ∧ [850].length < 256 ∧
    ((polling .polling (some reading)).station 0).points.length ≤ [850].length ∧
    (∀ v ∈ ([850] : List Int), -32768 ≤ v ∧ v ≤ 32767) ∧ reading.second = true ∧ ¬ reading.Answered [] :=
  ⟨rfl, rfl, rfl, by decide, by decide, by decide, by decide, rfl, nil_is_no_reply⟩

theorem witness_WritePollsClearTheFlag :
    (polling .polling (some writing)).phase = .operating ∧
    (polling .polling (some writing)).line.inFlight = some { kind := .periodic, poll := some writing } ∧
    writing.kind = .write 210 .auto ∧ writing.disowned = false ∧ writing.address ≤ 30 ∧ writing.second = true ∧
    [] ≠ writeAck writing.address := ⟨rfl, rfl, rfl, rfl, by decide, rfl, by decide⟩

/-- A part with a completion at the selector: input 1 on point 0/1 of quality `q`, in the given state. -/
def selecting (q : Quality) (x : LogicalInput) (candidates : List Nat) : State :=
  { State.reset with
    ctl := { mode := .run }
    zones := State.reset.zones.set1 1 { defined := true }
    line :=
      { inFlight := some { kind := .periodic, stage := .selector }
        stations := (State.reset.line.stations.set 0
            { defined := true, defn := { kinds := [.temp] }, points := [{ kind := .temp, value := 200, quality := q }] }).set 1
          { defined := true, defn := { kinds := [.temp] }, points := [{ kind := .temp, value := 215, quality := .good }] } }
    sel :=
      { inputs := State.reset.sel.inputs.set1 1 { x with defn := { primary := some ⟨0, 1⟩ } }
        pool := [⟨1, 1⟩], freeList := if x.source = .pool 0 then [] else [0], candidates := candidates } }

def primary (bad : Nat) : LogicalInput := { badCount := bad, holding := true, seenGood := true }
def substituted (verified : Nat) : LogicalInput := { state := .substituted, source := .pool 0, verifyCount := verified, holding := false }
def invalid (verified : Nat) : LogicalInput := { state := .invalid, source := .none, verifyCount := verified, holding := false }

theorem selecting_input (q : Quality) (x : LogicalInput) (l : List Nat) (i : Nat) :
    (selecting q x l).input i = if i = 1 then { x with defn := { primary := some ⟨0, 1⟩ } } else {} :=
  input_at (by intro i hi; interval_cases i <;> rfl) i

/-- The pool's one point stands on the free list or with input 1. -/
theorem selecting_lent (q : Quality) (x : LogicalInput) (l : List Nat)
    (h : (x.state = .onPrimary ∧ x.source = .primary ∧ l = []) ∨ (x.state = .substituted ∧ x.source = .pool 0 ∧ l = [1]) ∨
      (x.state = .invalid ∧ x.source = .none ∧ l = [1])) : (selecting q x l).PoolLent := by
  have hf : (selecting q x l).sel.freeList = if x.source = .pool 0 then [] else [0] := rfl
  have hc : (selecting q x l).sel.candidates = l := rfl
  have hp : (selecting q x l).sel.pool.length = 1 := rfl
  refine ⟨?_, ?_, fun i _ _ => ?_, ?_⟩
  · rw [hc]; rcases h with ⟨-, -, rfl⟩ | ⟨-, -, rfl⟩ | ⟨-, -, rfl⟩ <;> decide
  · rw [hc]; rcases h with ⟨-, -, rfl⟩ | ⟨-, -, rfl⟩ | ⟨-, -, rfl⟩ <;> decide
  · simp only [selecting_input, hc, hp]
    rcases h with ⟨h1, h2, rfl⟩ | ⟨h1, h2, rfl⟩ | ⟨h1, h2, rfl⟩ <;> by_cases hi : i = 1 <;> simp_all
    intro j _ _ hj
    split at hj <;> simp_all
  · have hs : ∀ i, ((selecting q x l).input i).source = if i = 1 then x.source else .primary := by
      intro i; rw [selecting_input]; split <;> rfl
    simp only [hs, hf, hp]
    rcases h with ⟨-, h, -⟩ | ⟨-, h, -⟩ | ⟨-, h, -⟩ <;> rw [h] <;> decide

/-- Every case of the three passes: an input not evaluated; an ON-PRIMARY one good, bad at a count of 3 and bad at 4, with a good pool
point; a SUBSTITUTED one at 28 and 29 good sweeps within the tolerance, and a bad one; an INVALID one at 28 and 29. -/
theorem witness_SelectorFailsOverAndReinstates :
    (∀ w, State.reset.line.inFlight = some w → w.stage ≠ .selector) ∧ (selecting .good (primary 0) []).phase = .operating ∧
    (selecting .good (primary 0) []).line.inFlight = some { kind := .periodic, stage := .selector } ∧
    (∀ q bad, (selecting q (primary bad) []).PoolLent) ∧ (∀ q n, (selecting q (substituted n) [1]).PoolLent) ∧
    (∀ q n, (selecting q (invalid n) [1]).PoolLent) ∧ (selecting .good (primary 0) []).evaluates 2 = false ∧
    (selecting .good (primary 4) []).reselects 1 = false ∧ (selecting .missing (primary 3) []).reselects 1 = false ∧
    (selecting .missing (primary 4) []).sourceFor 1 = .pool 0 ∧ (selecting .missing (primary 4) []).reselects 1 = true ∧
    (selecting .good (substituted 28) [1]).reinstates 1 = false ∧ (selecting .good (substituted 29) [1]).reinstates 1 = true ∧
    (selecting .missing (substituted 29) [1]).countsGood 1 = false ∧ (selecting .good (invalid 28) [1]).reselects 1 = true ∧
    (selecting .good (invalid 29) [1]).reinstates 1 = true := by
  refine ⟨fun w h => (nomatch h), rfl, rfl, fun q n => selecting_lent _ _ _ (.inl ⟨rfl, rfl, rfl⟩),
    fun q n => selecting_lent _ _ _ (.inr (.inl ⟨rfl, rfl, rfl⟩)), fun q n => selecting_lent _ _ _ (.inr (.inr ⟨rfl, rfl, rfl⟩)),
    ?_, ?_, ?_, ?_, ?_, ?_, ?_, ?_, ?_, ?_⟩ <;> decide +kernel

/-- A periodic and an on-request completion in RUN, and one in STANDBY. -/
theorem witness_ZoneCompletionComputes :
    let asked : State := { computing zoneThree 0 with line := { inFlight := some { kind := .onRequest, stage := .handedOn false true } } }
    (∀ w a, State.reset.line.inFlight = some w → w.stage ≠ .handedOn false a) ∧ (computing zoneThree 0).phase = .operating ∧
    (computing zoneThree 0).line.inFlight = some { kind := .periodic, stage := .handedOn false false } ∧
    (computing zoneThree 0).ctl.mode = .run ∧ asked.phase = .operating ∧ asked.ctl.mode = .run ∧
    asked.line.inFlight = some { kind := .onRequest, stage := .handedOn false true } ∧
    ¬ ({ computing zoneThree 0 with ctl := {} } : State).ctl.mode = .run := by
  refine ⟨fun w a h => (nomatch h), rfl, rfl, rfl, rfl, rfl, rfl, by decide⟩

/-- A completion at the channel controller, OUT at 40, channel 0 RUNNING with no window or one from 50. -/
def windowed (low : Option Int) : State :=
  let s := alone { runs with defn := { runs.defn with ambientHigh := low } }
  let inputs := State.reset.sel.inputs.set1 13 { defn := { primary := some ⟨0, 1⟩ }, value := 40, holding := false }
  { s with
    line := { inFlight := some { kind := .periodic, stage := .handedOn true false } }
    sel := { inputs := inputs, handed := inputs } }

/-- Chapter 7, R152: a definition of OUT taken between the selector's passes and the channel controller's taking of the completion does
not reach that completion. -/
theorem test_completion_as_handed_on :
    let s : State := { windowed none with ctl := {}, chan := { (windowed none).chan with ambientStatus := .expired } }
    let t := after .ambientSweepCompletion (after (.inputDefRemove 1 13) s)
    (after (.inputDefRemove 1 13) s).input 13 = {} ∧ t.chan.ambientStatus = .valid ∧ t.chan.ambientValue = 40 := by
  decide +kernel

theorem windowed_channel (low : Option Int) (c : Nat) :
    (windowed low).channel c = if c = 0 then { runs with defn := { runs.defn with ambientHigh := low } } else {} :=
  alone_channel _ [] c

theorem windowed_settled (low : Option Int) : (windowed low).Settled :=
  settled_of (windowed_channel low) rfl rfl ⟨rfl, (by decide : 0 < 1), rfl, rfl, rfl, rfl, rfl⟩
    ⟨.inl (by decide : ChannelState.running ≠ .idle), .inl (by decide : ChannelState.running ≠ .waiting), .inr (.inl rfl)⟩

theorem witness_AmbientCompletionInhibits :
    (∀ w z, State.reset.line.inFlight = some w → w.stage ≠ .handedOn z false) ∧ (windowed none).phase = .operating ∧
    (windowed none).line.inFlight = some { kind := .periodic, stage := .handedOn true false } ∧ (windowed none).Settled ∧
    (∀ c, ((windowed none).channel c).active = true → ((windowed none).channel c).inhibit = false) ∧
    (∀ c, ((windowed none).channel c).defn.inhibited .valid 40 true false = ((windowed none).channel c).inhibit) ∧
    (windowed (some 39)).Settled ∧ (windowed (some 39)).Alone 0 ∧ ((windowed (some 39)).channel 0).active = true ∧
    ((windowed (some 39)).channel 0).inhibit = false ∧
    ((windowed (some 39)).channel 0).defn.inhibited .valid 40 true false = true ∧
    (∀ d, d ≠ 0 → ((windowed (some 39)).channel d).active = false) := by
  refine ⟨fun w z h => (nomatch h), rfl, rfl, windowed_settled _, fun c _ => ?_, fun c => ?_, windowed_settled _,
    alone_alone _ ⟨rfl, rfl⟩, rfl, rfl, by decide, fun d hd => ?_⟩
  · rw [windowed_channel]; split <;> rfl
  · rw [windowed_channel]; split <;> decide
  · rw [windowed_channel, if_neg hd]; rfl

theorem witness_DemandUpdateDrivesTheChannels :
    let s : State := { alone runs with chan := { (alone runs).chan with updates := [demands [⟨1, .auto⟩]] } }
    State.reset.chan.updates = [] ∧ s.phase = .operating ∧ s.chan.updates = demands [⟨1, .auto⟩] :: [] ∧ s.Settled ∧
    (if runs.defn.tOn ≤ drivenBy (demands [⟨1, .auto⟩]) s.zones runs.defn then true
     else if drivenBy (demands [⟨1, .auto⟩]) s.zones runs.defn ≤ runs.defn.tOff then false else runs.own) = runs.own :=
  ⟨rfl, rfl, rfl, settled_of (alone_channel runs []) rfl rfl (by decide) (by decide), by decide +kernel⟩

/-- A RUNNING channel past its minimum on with a prompt request alone, and one whose own request holds it. -/
def prompted : Channel := { runs with own := false, prompt := true, minOnExpired := true, timer := none }

theorem witness_HoldAndRunOnTimersExpire :
    (alone prompted).phase = .operating ∧ ((alone prompted).zone 1).holdTimer ≠ none ∧ ((alone prompted).zone 1).hold = .inputHold ∧
    ((alone prompted).promptEntry 1).defn = none ∧ ((alone prompted).promptEntry 0).defn = some ⟨0, 1, 0⟩ ∧
    ((alone prompted).promptEntry 0).runOnTimer ≠ none ∧ (alone prompted).Settled ∧ (alone prompted).Alone 0 ∧
    prompted.minOnExpired = true ∧ prompted.own = false ∧ prompted.drawn = false ∧ (alone runs).Settled ∧ runs.own = true :=
  ⟨rfl, by decide, rfl, rfl, rfl, by decide, alone_settled _ _ (by decide) (by decide), alone_alone _ ⟨rfl, rfl⟩, rfl, rfl, rfl,
    alone_settled _ _ (by decide) (by decide), rfl⟩

/-- A STARTING and a RUNNING channel, with a request and without one. -/
theorem witness_StartAndMinimumOnExpire :
    (alone starts).phase = .operating ∧ ((alone starts).channel 0).timer ≠ none ∧ ((alone starts).channel 0).state = .starting ∧
    ((alone starts).channel 0).combined = true ∧ (alone { starts with own := false, combined := false }).Alone 0 ∧
    { starts with own := false, combined := false }.defn.minOn = 0 ∧ ((alone runs).channel 0).timer ≠ none ∧
    ((alone runs).channel 0).state = .running ∧ ((alone runs).channel 0).combined = true ∧
    (alone { runs with own := false, combined := false }).Alone 0 ∧ ((alone subject).channel 0).state = .idle :=
  ⟨rfl, by decide, rfl, rfl, alone_alone _ ⟨rfl, rfl⟩, rfl, by decide, rfl, rfl, alone_alone _ ⟨rfl, rfl⟩, rfl⟩

/-- `s` with a RESTART taken, its reply in transmission. -/
def abandoned (s : State) : State := { s with link := { s.link with tx := .reply (doneReply 0x1A), requests := [frameOf (.restart 1)] } }

theorem abandoned_taken (s : State) : (abandoned s).RestartTaken := .inr ⟨doneReply 0x1A, rfl, rfl, rfl⟩

theorem lab_not_restarting (m : PartMode) (x y : Channel) : ¬ (lab m x y).RestartTaken := by
  rintro (⟨r, h, -⟩ | ⟨r, h, -⟩) <;> cases h

/-- R180: the last after-run ends behind a RESTART that has been taken: no STANDBY and no WIND-DOWN-DONE. -/
theorem test_restart_abandons_the_wind_down :
    let last : Channel := { subject with state := .stopping, timer := some 0 }
    let t := after (.afterRunExpiry 0) (abandoned (lab .windDown last {}))
    let u := after (.afterRunExpiry 0) (lab .windDown last {})
    (t.channel 0).state = .idle ∧ t.ctl.mode = .windDown ∧ t.link.notices = [] ∧ u.ctl.mode = .standby ∧
    u.link.tx = .notice (.windDownDone 0 0 0) := by decide +kernel

/-- Channel 0 in a timed state, in RUN or in WIND-DOWN, the last to draw, with a RESTART taken and without. -/
theorem witness_RestTimersExpire :
    let rests := fun (st : ChannelState) (n : Nat) => ({ subject with state := st, timer := some 0, faults := n } : Channel)
    ((alone (rests .stopping 0)).channel 0).state = .stopping ∧ ((alone (rests .stopping 0)).channel 0).timer ≠ none ∧
    (alone (rests .stopping 0)).ctl.mode ≠ .windDown ∧ (lab .windDown (rests .stopping 0) {}).ctl.mode = .windDown ∧
    (lab .windDown (rests .stopping 0) {}).NoneDrawsBut 0 ∧ (alone (rests .lockout 0)).phase = .operating ∧
    ((alone (rests .lockout 0)).channel 0).state = .lockout ∧ ((alone (rests .faulted 2)).channel 0).faults ≠ 3 ∧
    ((alone (rests .faulted 3)).channel 0).faults = 3 ∧ ((alone (rests .faulted 3)).channel 0).state = .faulted ∧
    ¬ (lab .windDown (rests .stopping 0) {}).RestartTaken ∧ (abandoned (lab .windDown (rests .stopping 0) {})).RestartTaken ∧
    (abandoned (lab .windDown (rests .stopping 0) {})).ctl.mode = .windDown := by
  refine ⟨rfl, by decide, by decide, rfl, fun d hd h => ?_, rfl, rfl, by decide, rfl, rfl, lab_not_restarting _ _ _, abandoned_taken _, rfl⟩
  rw [lab_channel, if_neg hd] at h
  split at h <;> cases h

/-- A report on a RUNNING channel, on one that is IDLE, on the last in WIND-DOWN, and on an exercise in service. -/
theorem witness_FaultSenseFaultsTheChannel :
    let ex : Channel := { runs with exercise := true }
    let last : Channel := { subject with state := .stopping, timer := some 1 }
    (alone runs).phase = .operating ∧ ((alone runs).channel 0).sense = false ∧ ((alone runs).channel 0).state.drawing = true ∧
    (alone runs).Alone 0 ∧ (alone runs).ctl.mode ≠ .windDown ∧ ((alone subject).channel 31).state.drawing = false ∧
    (lab .windDown last {}).Alone 0 ∧ (lab .windDown last {}).NoneDrawsBut 0 ∧ (lab .windDown last {}).ctl.mode = .windDown ∧
    ((alone ex).exerciseRecord 0).bound = some 0 ∧ ((alone ex).exerciseRecord (1 - 0)).bound ≠ some 0 ∧
    ((alone ex).channel 0).exercise = true ∧ ((alone ex).channel 0).state ≠ .stopping ∧
    (∀ d, d ≠ 0 → ((alone ex).channel d).exercise = false ∧
      (((alone ex).channel d).active = true → ((alone ex).channel d).defn.prerequisite ≠ some 0)) ∧
    ¬ (lab .windDown last {}).RestartTaken ∧ (abandoned (lab .windDown last {})).RestartTaken := by
  refine ⟨rfl, rfl, rfl, alone_alone _ ⟨rfl, rfl⟩, by decide, rfl, ⟨?_, fun d h => ?_⟩, fun d hd h => ?_, rfl, rfl, by decide, rfl,
    by decide, fun d hd => ?_, lab_not_restarting _ _ _, abandoned_taken _⟩
  · rfl
  · rw [lab_channel] at h ⊢
    split
    · simp [subject]
    · split <;> simp
  · rw [lab_channel, if_neg hd] at h
    split at h <;> cases h
  · rw [alone_channel, if_neg hd]; exact ⟨rfl, fun h => (nomatch h)⟩

theorem witness_SlotDecisionKeepsTheCeiling :
    (alone runs).phase = .operating ∧ (alone runs).ctl.mode = .run ∧ (alone runs).alloc.slotTimer ≠ none ∧
    (alone runs).GrantOrderExact ∧ (alone runs).PrioritiesInRange ∧ State.reset.alloc.slotTimer = none ∧
    ((alone runs).channel 0).defn.group ≠ 7 ∧ (alone runs).alloc.threshold ≤ 8 :=
  ⟨rfl, rfl, by decide, alone_order _ _ rfl, alone_priorities _ (by decide), rfl, by decide, by decide⟩

theorem witness_DriveLinesFollowTheState :
    (alone runs).phase = .operating ∧ ((alone runs).channel 0).defined = true ∧ ((alone runs).channel 31).defined = false ∧
    ({ State.reset with phase := .held } : State).phase ≠ .operating ∧ (restarting false true).phase = .startUp :=
  ⟨rfl, rfl, rfl, by decide, rfl⟩

/-- A drive line in RUNNING and in STOPPING: the applied level 40, and Lmin, 10. -/
theorem test_drive_lines :
    let x := fun (st : ChannelState) =>
      alone { subject with state := st, applied := 40, defn := { subject.defn with kind := .pwm, lmin := 10 } }
    ((x .running).driveLine 0, (x .stopping).driveLine 0, (x .lockout).driveLine 0, (alone starts).driveLine 0) =
      (.level 40, .level 10, .off, .on) := by decide

/-- The part in RUN with channels 0 and 1, a rota of one entry or none, and group 0's peak, divisor 1, burst 4 and credit. -/
def slotted (x y : Channel) (entry : Option Nat) (ceiling threshold peak : Nat) (credit : Int) : State :=
  let s := lab .run x y
  { s with
    alloc := { s.alloc with
      ceiling := ceiling, threshold := threshold, rotaLength := if entry.isSome then 1 else 0
      rota := (Table.fill 64 none).set 0 entry
      groups := s.alloc.groups.set 0 { defn := ⟨peak, 1, 4⟩, credit := credit } } }

theorem slotted_channel (x y : Channel) (entry : Option Nat) (ceiling threshold peak : Nat) (credit : Int) (c : Nat) :
    (slotted x y entry ceiling threshold peak credit).channel c = if c = 0 then x else if c = 1 then y else {} :=
  lab_channel .run x y [] c

theorem slotted_decides (x y : Channel) (entry : Option Nat) (ceiling threshold peak : Nat) (credit : Int) :
    (slotted x y entry ceiling threshold peak credit).Decides :=
  ⟨rfl, .inl rfl, fun h => (nomatch h)⟩

/-- Channel 0 is the only one in service or waiting. -/
theorem slotted_rest (x y : Channel) (entry : Option Nat) (ceiling threshold peak : Nat) (credit : Int)
    (h : y.state.drawing = false ∧ y.state ≠ .waiting) (d : Nat) (hd : d ≠ 0) :
    ((slotted x y entry ceiling threshold peak credit).channel d).state.drawing = false ∧
    ((slotted x y entry ceiling threshold peak credit).channel d).state ≠ .waiting := by
  rw [slotted_channel, if_neg hd]; split
  · exact h
  · decide

theorem slotted_alone (x y : Channel) (entry : Option Nat) (ceiling threshold peak : Nat) (credit : Int) (c : Nat)
    (h : x.defn.prerequisite = none ∧ y.defn.prerequisite = none ∧ x.exercise = false ∧ y.exercise = false) :
    (slotted x y entry ceiling threshold peak credit).Alone c := by
  refine ⟨?_, fun d _ => ?_⟩
  · rw [slotted_channel]; split <;> [exact h.2.2.1; split <;> [exact h.2.2.2; rfl]]
  · rw [slotted_channel]; split <;> [simp [h.1]; split <;> simp [h.2.1]]

/-- A WAITING channel of surge 400 and rated current 400. -/
def seeks : Channel := { waits with defn := { waits.defn with surge := 400, rated := 400 } }

/-- One WAITING channel: the slot's entry at a ceiling of 400 and of 399, the credit at 400 and at 399, the peak at 400 and at 399, and
a threshold of 0. The credit 0 is refilled by the peak. -/
theorem witness_SlotDecisionGrantsTheWaiting :
    let s := slotted seeks {}
    (s (some 0) 400 8 400 0).Decides ∧ ((s (some 0) 400 8 400 0).channel 0).defined = true ∧ seeks.state = .waiting ∧
    seeks.combined = true ∧ seeks.inhibit = false ∧ seeks.sense = false ∧ 0 < seeks.defn.startTime ∧ seeks.defn.priority < 8 ∧
    (∀ d, d ≠ 0 → ((s (some 0) 400 8 400 0).channel d).defined = true →
      ((s (some 0) 400 8 400 0).channel d).state.drawing = false ∧ ((s (some 0) 400 8 400 0).channel d).state ≠ .waiting) ∧
    seeks.defn.prerequisite = none ∧ (s (some 0) 400 8 400 0).slotEntry = some 0 ∧ (s none 400 8 400 0).slotEntry = none ∧
    seeks.draws = 0 ∧ seeks.defn.startingFigure = 400 ∧
    ((s none 400 8 400 0).slotOpened.group 0).credit = 400 ∧ ((s none 400 8 400 (-1)).slotOpened.group 0).credit = 399 ∧
    ((s none 400 8 399 1).slotOpened.group 0).credit = 400 ∧ ((s none 400 8 399 1).slotOpened.group 0).defn.peak = 399 ∧
    ¬ 400 ≤ (s none 399 8 400 0).alloc.ceiling ∧ ¬ seeks.defn.priority < (s none 400 0 400 0).alloc.threshold := by
  refine ⟨slotted_decides _ _ _ _ _ _ _, rfl, rfl, rfl, rfl, rfl, by decide, by decide,
    fun d hd _ => slotted_rest _ _ _ _ _ _ _ (by decide) d hd, rfl, ?_, rfl, ?_, ?_, ?_, ?_, ?_, ?_, ?_, ?_⟩ <;> decide +kernel

/-- A renewal of a counted current of 400, and a STOPPING channel that may restart at 400; the boundaries are those of the statement
before. -/
theorem witness_SlotDecisionRenewsOrReleases :
    let renews : Channel := { seeks with state := .running, minOnExpired := true }
    let resumes : Channel := { seeks with state := .stopping, timer := some 1, defn := { seeks.defn with restartAllowed := true } }
    (∀ entry ceiling threshold peak credit, (slotted renews {} entry ceiling threshold peak credit).Decides ∧
      (slotted renews {} entry ceiling threshold peak credit).Alone 0 ∧
      (slotted resumes {} entry ceiling threshold peak credit).Decides ∧
      (slotted resumes {} entry ceiling threshold peak credit).Alone 0 ∧
      ∀ d, d ≠ 0 →
        (((slotted renews {} entry ceiling threshold peak credit).channel d).state.drawing = false ∧
          ((slotted renews {} entry ceiling threshold peak credit).channel d).state ≠ .waiting) ∧
        ((slotted resumes {} entry ceiling threshold peak credit).channel d).state.drawing = false ∧
          ((slotted resumes {} entry ceiling threshold peak credit).channel d).state ≠ .waiting) ∧
    renews.defined = true ∧ renews.combined = true ∧ renews.inhibit = false ∧ renews.defn.priority < 8 ∧
    renews.defn.prerequisite = none ∧ renews.state = .running ∧ renews.minOnExpired = true ∧ renews.defn.kind = .switch ∧
    renews.draws = 400 ∧ resumes.state = .stopping ∧ resumes.defn.restartAllowed = true ∧ resumes.defn.kind = .switch ∧
    resumes.defn.rated = 400 ∧ (slotted renews {} (some 0) 400 8 400 0).slotEntry = some 0 ∧
    (slotted renews {} none 400 8 400 0).slotEntry = none ∧
    ((slotted renews {} none 400 8 400 0).slotOpened.group 0).credit = 400 ∧
    ((slotted renews {} none 400 8 400 (-1)).slotOpened.group 0).credit = 399 ∧
    ((slotted renews {} none 400 8 399 1).slotOpened.group 0).credit = 400 ∧
    ((slotted renews {} none 400 8 399 1).slotOpened.group 0).defn.peak = 399 ∧
    ¬ 400 ≤ (slotted renews {} none 399 8 400 0).alloc.ceiling ∧
    ¬ renews.defn.priority < (slotted renews {} none 400 0 400 0).alloc.threshold := by
  refine ⟨fun entry ceiling threshold peak credit => ⟨slotted_decides _ _ _ _ _ _ _, slotted_alone _ _ _ _ _ _ _ _ (by decide),
    slotted_decides _ _ _ _ _ _ _, slotted_alone _ _ _ _ _ _ _ _ (by decide), fun d hd =>
      ⟨slotted_rest _ _ _ _ _ _ _ (by decide) d hd, slotted_rest _ _ _ _ _ _ _ (by decide) d hd⟩⟩,
    rfl, rfl, rfl, by decide, rfl, rfl, rfl, rfl, ?_, rfl, rfl, rfl, rfl, ?_, ?_, ?_, ?_, ?_, ?_, ?_, ?_⟩ <;> decide +kernel

/-- R74 and R76 at a credit of 399: the renewal of a current of 400 is released and the credit refusal counted; at 400 it is charged. -/
theorem test_renewal :
    let renews : Channel := { seeks with state := .running, minOnExpired := true }
    let t := after .slotDecision (slotted renews {} none 400 8 400 (-1))
    let u := after .slotDecision (slotted renews {} none 400 8 400 0)
    (t.channel 0).state = .waiting ∧ (t.group 0).credit = 399 ∧ (t.group 0).creditRefusals = 1 ∧ t.alloc.lastReleases = 1 ∧
    (u.channel 0).state = .running ∧ (u.group 0).credit = 0 ∧ u.alloc.lastGrants = 1 := by decide +kernel

/-- A PWM channel inside its minimum on at 40, its target 50, rated 200: a ceiling of 80, of 82 and of 100; and a SWITCH channel of 400
at ceilings of 400 and 399. -/
theorem witness_SlotDecisionHoldsRaisesAndSheds :
    let x : Channel :=
      { runs with applied := 40, target := 50, defn := { runs.defn with kind := .pwm, lmin := 10, rated := 200 } }
    let y : Channel := { runs with defn := { runs.defn with rated := 400 } }
    let fits := fun (ceiling l : Nat) =>
      ((slotted x {} none ceiling 8 4000 0).withChannel 0 { x with applied := l }).over Channel.draws ≤ ceiling ∧
      ((slotted x {} none ceiling 8 4000 0).withChannel 0 { x with applied := l }).load 0 ≤ 4000
    (slotted x {} none 80 8 4000 0).Decides ∧ (slotted x {} none 80 8 4000 0).CreditBounds ∧
    (∀ d, ((slotted x {} none 80 8 4000 0).channel d).state ≠ .waiting ∧ ((slotted x {} none 80 8 4000 0).channel d).minOnExpired = false ∧
      ((slotted x {} none 80 8 4000 0).channel d).state ≠ .stopping) ∧
    (slotted x {} none 80 8 4000 0).over Channel.draws = 80 ∧ x.defined = true ∧ x.state = .running ∧ x.defn.kind = .pwm ∧
    (∀ d, d ≠ 0 → ((slotted x {} none 80 8 4000 0).channel d).defined = false) ∧
    (∀ l, x.applied < l → l ≤ x.target → ¬ fits 80 l) ∧ fits 82 41 ∧ (∀ m, 41 < m → m ≤ x.target → ¬ fits 82 m) ∧ fits 100 x.target ∧
    (slotted y {} none 400 8 4000 0).over Channel.draws = 400 ∧ (slotted y {} none 399 8 4000 0).alloc.ceiling < 400 ∧
    (slotted y {} none 399 8 4000 0).GrantOrderExact ∧ (slotted y {} none 399 8 4000 0).PrioritiesInRange ∧
    (slotted y {} none 399 8 4000 0).ShedFirst 0 ∧ (slotted y {} none 399 8 4000 0).Alone 0 := by
  refine ⟨slotted_decides _ _ _ _ _ _ _, ?_, fun d => ?_, ?_, rfl, rfl, rfl, fun d hd => ?_, fun l h1 h2 => ?_, ?_, fun m h1 h2 => ?_, ?_,
    ?_, by decide, ?_, ?_, ⟨rfl, fun d hd h => ?_⟩, slotted_alone _ _ _ _ _ _ _ _ (by decide)⟩
  · unfold State.CreditBounds; decide +kernel
  · rw [slotted_channel]; split <;> [decide; split <;> decide]
  · decide +kernel
  · rw [slotted_channel, if_neg hd]; split <;> rfl
  · have h1 : 40 < l := h1
    have h2 : l ≤ 50 := h2
    interval_cases l <;> decide +kernel
  · decide +kernel
  · have h2 : m ≤ 50 := h2
    interval_cases m <;> decide +kernel
  · decide +kernel
  · decide +kernel
  · exact alone_order _ [] rfl
  · exact alone_priorities _ (by decide)
  · rw [slotted_channel, if_neg hd] at h; split at h <;> cases h

/-- Channel 0 waits at priority 1 and channel 1 runs inside its minimum on at priority 5, both of 400 in group 0: room for both, for one at
each width, for none, and the credit at 400 and 399. -/
theorem witness_SlotDecisionDisplaces :
    let x : Channel := { seeks with defn := { seeks.defn with priority := 1 } }
    let z : Channel := { runs with defn := { runs.defn with priority := 5, rated := 400 } }
    let s := slotted x z none
    (s 800 8 800 0).Decides ∧ (0 : Nat) ≠ 1 ∧ (s 800 8 800 0).slotEntry ≠ some 0 ∧ x.defined = true ∧ x.state = .waiting ∧ x.combined = true ∧
    x.inhibit = false ∧ x.sense = false ∧ 0 < x.defn.startTime ∧ x.defn.priority < 8 ∧ x.defn.priority < (s 800 8 800 0).alloc.threshold ∧
    x.defn.prerequisite = none ∧ z.defined = true ∧ z.state = .running ∧ z.minOnExpired = false ∧ z.defn.priority < 8 ∧
    z.defn.kind = .switch ∧ z.draws ≤ (s 400 8 800 0).alloc.ceiling ∧ (s 800 8 800 0).chan.grantOrder = [1] ∧ (s 800 8 800 0).Alone 1 ∧
    (∀ d, d ≠ 0 → d ≠ 1 → ((s 800 8 800 0).channel d).state.drawing = false ∧ ((s 800 8 800 0).channel d).state ≠ .waiting) ∧
    ((s 800 8 800 0).slotOpened.group 0).credit - 400 = 400 ∧ ((s 800 8 800 (-1)).slotOpened.group 0).credit - 400 = 399 ∧
    z.draws + 400 ≤ 800 ∧ ¬ z.draws + 400 ≤ 799 ∧ (s 800 8 800 0).settings.preemptionWidth = 1 ∧
    (1 / 2 ^ (3 - 1) < 5 / 2 ^ (3 - 1)) ∧ ¬ (1 / 2 ^ (3 - 1) < 3 / 2 ^ (3 - 1)) ∧ x.defn.startingFigure = 400 ∧
    400 + z.defn.afterRunCurrent ≤ 400 := by
  refine ⟨slotted_decides _ _ _ _ _ _ _, by decide, ?_, rfl, rfl, rfl, rfl, rfl, by decide, by decide, by decide, rfl, rfl, rfl, rfl, by decide,
    rfl, ?_, rfl, slotted_alone _ _ _ _ _ _ _ _ (by decide), fun d h0 h1 => ?_, ?_, ?_, ?_, ?_, rfl, by decide, by decide, by decide, by decide⟩
  · decide +kernel
  · decide
  · rw [slotted_channel, if_neg h0, if_neg h1]; decide
  all_goals decide +kernel

/-- R77 and R78: under a ceiling of 799 channel 0 displaces channel 1; at a preemption width of 0 it waits. -/
theorem test_displacement_of_one :
    let x : Channel := { seeks with defn := { seeks.defn with priority := 1 } }
    let z : Channel := { runs with defn := { runs.defn with priority := 5, rated := 400 } }
    let s := slotted x z none 799 8 4000 0
    let t := after .slotDecision s
    let u := after .slotDecision { s with settings := { s.settings with preemptionWidth := 0 } }
    (t.channel 0).state = .starting ∧ (t.channel 1).state = .waiting ∧ t.alloc.lastDisplacements = 1 ∧ t.chan.grantOrder = [0] ∧
    (u.channel 0).state = .waiting ∧ (u.channel 1).state = .running ∧ u.chan.grantOrder = [1] := by decide +kernel

/-- Timers running and stopped; a settled part whose one channel is below the threshold and within the safe ceiling of 800. -/
theorem witness_SafeValuesTakeOver :
    State.reset.alloc.stalenessTimer = none ∧ (alone (loads 800 3)).alloc.stalenessTimer ≠ none ∧
    (alone (loads 800 3)).GrantOrderExact ∧ (alone (loads 800 3)).PrioritiesInRange ∧
    (∀ c, ((alone (loads 800 3)).channel c).active = true →
      ((alone (loads 800 3)).channel c).defn.priority < (alone (loads 800 3)).settings.safeThreshold) ∧
    (alone (loads 800 3)).over Channel.draws ≤ (alone (loads 800 3)).settings.safeCeiling ∧
    State.reset.ctl.mode ≠ .run ∧ (alone (loads 800 3)).link.silenceTimer ≠ none ∧ (alone (loads 800 3)).ctl.mode = .run ∧
    (alone (loads 800 3)).Settled ∧ (∀ c, ((alone (loads 800 3)).channel c).prompt = false) := by
  refine ⟨rfl, by decide, alone_order _ _ rfl, alone_priorities _ (by decide), loads_below 800, ?_, by decide, by decide, rfl,
    alone_settled _ _ (by decide) (by decide), fun c => ?_⟩
  · rw [alone_over]; decide
  · rw [alone_channel]; split <;> rfl

/-- Channel 0 bound to record 0 at 167 hours: IDLE in RUN, IDLE in STANDBY with the retry timer running, and RUNNING an exercise. -/
theorem witness_ExerciseIsAskedAndSatisfied :
    let ask := fun (m : PartMode) (x : Channel) (r : ExerciseRecord) =>
      ({ lab m x {} with chan := { (lab m x {}).chan with exercise := (lab m x {}).chan.exercise.set 0 r } } : State)
    let bound : ExerciseRecord := { bound := some 0, idleHours := 167 }
    let late : ExerciseRecord := { bound := some 0, idleHours := 168, due := true, retry := some 0 }
    let ends : Channel := { runs with own := false, exercise := true, minOnExpired := true, timer := none }
    let cleared : ExerciseRecord := { bound := some 0, idleHours := 167, retry := some 0 }
    (ask .run subject cleared).Settled ∧ subject.exercise = false ∧ cleared.retry ≠ none ∧ cleared.due = false ∧
    (ask .run subject bound).phase = .operating ∧ ((ask .run subject bound).exerciseRecord 0).bound = some 0 ∧
    (ask .run subject bound).Settled ∧ ((ask .run subject bound).channel 0).state = .idle ∧
    decide ((ask .run subject bound).settings.exerciseInterval ≤ 167 + 1) = true ∧ bound.due = false ∧ bound.retry = none ∧
    decide ((ask .run subject bound).settings.exerciseInterval ≤ 166 + 1) = bound.due ∧ ((alone runs).channel 0).state = .running ∧
    (ask .run subject late).Settled ∧ late.retry ≠ none ∧ late.due = true ∧ ¬ ((ask .standby subject late).ctl.mode = .run) ∧
    (ask .standby subject late).Settled ∧ bound.running = false ∧ (ask .run runs { bound with running := true }).phase = .operating ∧
    runs.exercise = false ∧ (ask .run ends { late with running := true }).Settled ∧ ends.exercise = true ∧ ends.own = false ∧
    (∀ d, ((ask .run ends { late with running := true }).channel d).active = true →
      ((ask .run ends { late with running := true }).channel d).defn.prerequisite ≠ some 0) ∧ ends.minOnExpired = true := by
  refine ⟨settled_of (alone_channel subject []) rfl rfl (by decide) (by decide), rfl, by decide, rfl, rfl, rfl,
    settled_of (alone_channel subject []) rfl rfl (by decide) (by decide), rfl, by decide, rfl, rfl, by decide, rfl,
    settled_of (alone_channel subject []) rfl rfl (by decide) (by decide), by decide, rfl, by decide, ⟨fun _ c => ?_, fun c => ?_, fun c => ?_⟩,
    rfl, rfl, rfl, settled_of (alone_channel _ []) rfl rfl (by decide) (by decide), rfl, rfl, fun d _ => ?_, rfl⟩
  · have hp : ∀ d, ¬ ((resting.channel d).defined = true ∧ (resting.channel d).defn.prerequisite = some c ∧
        (resting.channel d).combined = true) := by
      intro d; rw [resting_channel]; split <;> simp [subject]
    refine ⟨⟨fun h => ?_, fun h => absurd h.2.choose_spec (hp _)⟩, fun h => ?_, fun h => ?_⟩
    · change (resting.channel c).drawn = true at h
      rw [resting_channel] at h; split at h <;> cases h
    · change (resting.channel c).combined = true at h
      rw [resting_channel] at h; split at h <;> cases h
    · rcases h.2.2.1 with h' | h' <;> cases h'
  · show resting.ChannelOk c
    simp only [State.ChannelOk, State.channelTests, AllHold]; rw [resting_channel]
    split
    · rename_i hc; subst hc
      refine fun _ => ⟨by decide, by decide, ?_, ?_, ?_, ?_, trivial⟩ <;> simp [subject]
    · simp
  · change (((resting.channel c).state = .idle → (resting.channel c).combined = false) ∧
      ((resting.channel c).state = .waiting → (resting.channel c).combined = true) ∧
      ((resting.channel c).defined = true → (resting.channel c).state = .running → (resting.channel c).minOnExpired = true →
        (resting.channel c).combined = true))
    rw [resting_channel]; split <;> decide
  · have := alone_channel { runs with own := false, exercise := true, minOnExpired := true, timer := none } [] d
    change ((alone { runs with own := false, exercise := true, minOnExpired := true, timer := none } []).channel d).defn.prerequisite ≠ some 0
    rw [this]; split <;> simp [runs, subject]

theorem witness_StoreWritesEnd :
    let w := fun (x : StoreWrite) => ({ State.reset with store := { write := x, save := some ⟨1, {}, {}⟩ } } : State)
    State.reset.phase = .operating ∧ State.reset.ctl.mode ≠ .run ∧ State.reset.ctl.mode ≠ .fallback ∧ (alone runs).ctl.mode = .run ∧
    State.reset.store.write ≠ .configuration ∧ (w .configuration).store.write = .configuration ∧
    (w .configuration).store.save = some ⟨1, {}, {}⟩ ∧ (w .counter).store.write = .counter ∧
    (∀ k, State.reset.store.write ≠ .checkpoint k) ∧ (w (.checkpoint {})).store.write = .checkpoint {} :=
  ⟨rfl, by decide, by decide, rfl, by decide, rfl, rfl, rfl, fun _ h => (nomatch h), rfl⟩

/-- Every field of a CHANNEL-DEF at the limits its bytes admit, the served zones filling the frame. -/
theorem witness_RequestsRoundTrip :
    ∃ kind tag body,
      (Instr.channelDef 255 ⟨255, 255, 255, 255, List.replicate 23 255, 65535, 65535, 255, 65535, 65535, 255, 65535, 65535, 65535, 65535, 255,
        some 254, 255, 255, some (-32767), some 32767, 255, 255⟩).wellFormed = true ∧
      encodeRequest (Instr.channelDef 255 ⟨255, 255, 255, 255, List.replicate 23 255, 65535, 65535, 255, 65535, 65535, 255, 65535, 65535,
        65535, 65535, 255, some 254, 255, 255, some (-32767), some 32767, 255, 255⟩) = some (kind, tag, body) :=
  ⟨_, _, _, by decide +kernel, rfl⟩

end Sys2Proof.Tests
end

section
/-! SUPPORT. The reports (R25, R56, R86, R101, R135, R156): the figures they carry in the spec's terms, and the answer that every
request for a report of one record gives. -/

namespace Sys2Proof

variable {α β : Type} {n : Nat}

/-- The rows of a table are its records in the order of their numbers. -/
theorem Table.rows_eq_map_get (t : Table α n) (d : α) : t.rows = (List.range n).map (t.get d) := by
  have hs := t.size
  apply List.ext_getElem
  · simp [hs]
  · intro i hi _
    simp [Table.get, List.getD_eq_getElem?_getD, hi]

/-- Without use of the number, mapping with numbers is mapping. -/
theorem mapFrom_const (f : α → β) (k : Nat) (l : List α) : mapFrom (fun _ => f) k l = l.map f := by
  induction l generalizing k with
  | nil => rfl
  | cons a as ih => simp [mapFrom, ih]

end Sys2Proof

namespace Sys2Proof.Machine

/-! ## The figures -/

theorem secondsLeft_eq_wholeSeconds (t : Option Nat) : secondsLeft t = wholeSeconds t := by
  cases t <;> rfl

/-- The counted current is what a channel draws, and 0 outside STARTING, RUNNING and STOPPING (R35). -/
theorem Channel.counted_eq_draws (x : Channel) : x.counted = x.draws := by
  unfold Channel.counted Channel.draws
  cases x.defined with
  | false => rfl
  | true =>
    cases x.state with
    | running => cases hk : x.defn.kind <;> simp [ChannelDef.currentAt, hk, divUp]
    | _ => rfl

/-- The place of a number in a list is the first index that holds it. -/
theorem positionIn_eq_findIdx? (n : Nat) (l : List Nat) : positionIn n l = l.findIdx? (fun a => decide (a = n)) := by
  induction l with
  | nil => rfl
  | cons a as ih => simp [positionIn, List.findIdx?_cons, ih]

theorem within_eq_false {lo hi n : Nat} : within lo hi n = false ↔ n < lo ∨ hi < n := by
  simp only [within, Bool.and_eq_false_iff, decide_eq_false_iff_not, Nat.not_le]

/-! ## Figures over the channels -/

/-- A sum over the channel table's rows is a sum over the 32 channel numbers. -/
theorem State.plant_sum (s : State) (f : Channel → Nat) : s.plant.sum (fun _ => f) = s.over f := by
  have hrows : s.chan.channels.rows = (List.range 32).map s.channel := Table.rows_eq_map_get _ _
  simp only [Plant.sum, State.plant, State.over, mapFrom_const, hrows, List.map_map, Function.comp_def]

theorem State.plant_total (s : State) : s.plant.total = s.over Channel.draws := by
  rw [← State.plant_sum]
  simp only [Plant.total, Channel.counted_eq_draws]

theorem State.plant_countIn (s : State) (st : ChannelState) :
    s.plant.countIn st = s.over (fun x => if x.defined = true ∧ x.state = st then 1 else 0) := by
  rw [← State.plant_sum]
  simp only [Plant.countIn, Bool.and_eq_true, decide_eq_true_eq]

/-- A figure of the members of a share group that pass a test. -/
theorem State.plant_sumGroup (s : State) (g : Nat) (p : Channel → Prop) [DecidablePred p] (f : Channel → Nat) :
    s.plant.sumGroup g (fun x => if p x then f x else 0) =
      s.over (fun x => if (x.defined = true ∧ x.defn.group = g) ∧ p x then f x else 0) := by
  rw [← State.plant_sum]
  simp only [Plant.sumGroup, Bool.and_eq_true, decide_eq_true_eq, ← ite_and]

/-! ## The selector's figures -/

/-- The input a pool index is lent to, looked for among every number below 14: 0 names no input and holds no pool index. -/
theorem State.lentTo_eq_find? (s : State) (k : Nat) :
    s.sel.lentTo k = (List.range 14).find? (fun q => decide ((s.input q).source = .pool k)) := by
  have hrange : List.range 14 = 0 :: inputNumbers := by decide
  have hzero : decide ((s.input 0).source = .pool k) = false := rfl
  rw [hrange, List.find?_cons, hzero]
  rfl

/-! ## The answer to a request for a report -/

/-- A report that is of no one record is answered in every mode from the state at the taking. -/
theorem State.submit_report {s : State} (h : s.Ready) (i : Instr) {kind tag : Nat} (hk : (frameOf i).kind = kind)
    (ht : (frameOf i).tag = tag) (content : State → Content) :
    s.submit i (fun u => u.reply kind tag .done (content u)) =
      s.atTaking.answered i .done (content (s.atTaking.heading i)) := by
  rw [State.submit_ready h, State.heading_reply _ _ hk ht]

/-- A report of one record: BAD-FIELD for a number out of range, NO-SUCH-ITEM for an undefined record, and in every mode the
record as it stands at the taking. -/
theorem State.submit_itemReport {s : State} (h : s.Ready) (i : Instr) {kind tag : Nat} (hk : (frameOf i).kind = kind)
    (ht : (frameOf i).tag = tag) (inRange : Bool) (defined : State → Bool) (content : State → Content) :
    s.submit i (fun u => u.onItem kind tag inRange (defined u) (fun u => u.reply kind tag .done (content u))) =
      if inRange = false then s.atTaking.answered i .badField (.field 1)
      else if defined (s.atTaking.heading i) = false then s.atTaking.answered i .noSuchItem .nothing
      else s.atTaking.answered i .done (content (s.atTaking.heading i)) := by
  rw [State.submit_ready h]
  unfold State.onItem State.badField State.noSuchItem
  cases inRange
  · exact State.heading_reply _ _ hk ht _ _
  · cases defined (s.atTaking.heading i) <;> exact State.heading_reply _ _ hk ht _ _

/-! ## The six reports as commands -/

section
variable {s : State} (h : s.Ready) (tag : Nat)
include h

theorem exec_allocReport : exec (.allocReport tag) s =
    .next (s.atTaking.answered (.allocReport tag) .done (.alloc s.atTaking.allocReport)) :=
  congrArg _ (State.submit_report h (.allocReport tag) rfl rfl (fun u => .alloc u.allocReport))

theorem exec_groupReport (group : Nat) :
    let i := Instr.groupReport tag group
    exec i s = .next
      (if 7 < group then s.atTaking.answered i .badField (.field 1)
       else s.atTaking.answered i .done (.group (s.atTaking.groupReport group))) := by
  have hanswer := State.submit_itemReport h (.groupReport tag group) rfl rfl (within 0 7 group) (fun _ => true)
    (fun u => .group (u.groupReport group))
  simp only [within_eq_false, Nat.not_lt_zero, false_or, Bool.true_eq_false, if_false] at hanswer
  exact congrArg _ hanswer

theorem exec_zoneReport (zone : Nat) :
    let i := Instr.zoneReport tag zone
    exec i s = .next
      (if zone < 1 ∨ 12 < zone then s.atTaking.answered i .badField (.field 1)
       else if (s.atTaking.zone zone).defined = false then s.atTaking.answered i .noSuchItem .nothing
       else s.atTaking.answered i .done (.zone (s.atTaking.zoneReport zone))) := by
  have hanswer := State.submit_itemReport h (.zoneReport tag zone) rfl rfl (within 1 12 zone)
    (fun u => (u.zone zone).defined) (fun u => .zone (u.zoneReport zone))
  simp only [within_eq_false] at hanswer
  exact congrArg _ hanswer

theorem exec_channelReport (channel : Nat) :
    let i := Instr.channelReport tag channel
    exec i s = .next
      (if 31 < channel then s.atTaking.answered i .badField (.field 1)
       else if (s.atTaking.channel channel).defined = false then s.atTaking.answered i .noSuchItem .nothing
       else s.atTaking.answered i .done (.channel (s.atTaking.channelReport channel))) := by
  have hanswer := State.submit_itemReport h (.channelReport tag channel) rfl rfl (within 0 31 channel)
    (fun u => (u.channel channel).defined) (fun u => .channel (u.channelReport channel))
  simp only [within_eq_false, Nat.not_lt_zero, false_or] at hanswer
  exact congrArg _ hanswer

theorem exec_inputReport (input : Nat) :
    let i := Instr.inputReport tag input
    exec i s = .next
      (if input < 1 ∨ 13 < input then s.atTaking.answered i .badField (.field 1)
       else if (s.atTaking.input input).defined = false then s.atTaking.answered i .noSuchItem .nothing
       else s.atTaking.answered i .done (.input (s.atTaking.inputReport input))) := by
  have hanswer := State.submit_itemReport h (.inputReport tag input) rfl rfl (within 1 13 input)
    (fun u => (u.input input).defined) (fun u => .input (u.inputReport input))
  simp only [within_eq_false] at hanswer
  exact congrArg _ hanswer

theorem exec_stationReport (station : Nat) :
    let i := Instr.stationReport tag station
    exec i s = .next
      (if 15 < station then s.atTaking.answered i .badField (.field 1)
       else if (s.atTaking.station station).defined = false then s.atTaking.answered i .noSuchItem .nothing
       else s.atTaking.answered i .done (.station (s.atTaking.stationReport station))) := by
  have hanswer := State.submit_itemReport h (.stationReport tag station) rfl rfl (within 0 15 station)
    (fun u => (u.station station).defined) (fun u => .station (u.stationReport station))
  simp only [within_eq_false, Nat.not_lt_zero, false_or] at hanswer
  exact congrArg _ hanswer

end

/-! ## The reports' contents -/

/-- An input's primary point is what makes it defined. -/
theorem LogicalInput.defined_eq_false {x : LogicalInput} : x.defined = false ↔ x.defn.primary = none := by
  simp [LogicalInput.defined]

/-- A defined input is evaluated where it is OUT or its zone is defined (R143). -/
theorem State.evaluated_of_defined (s : State) (i : Nat) {x : LogicalInput} (h : x.defn.primary ≠ none) :
    s.evaluated i x = (decide (i = 13) || (s.zone i).defined) := by
  rw [State.evaluated, Bool.eq_true_of_not_eq_false (mt LogicalInput.defined_eq_false.1 h), Bool.true_and]

/-- The level status, NONE first (R34, R56). -/
theorem Channel.level_eq (x : Channel) :
    x.level = if x.state ≠ .running then .none
      else if x.defn.kind = .pwm ∧ x.applied < x.target then .levelLimited else .full := by
  rw [Channel.level, ite_not]

/-- Settles O38: each report's answer by its exec_ lemma, and each figure of it by the lemma that says it in the spec's terms. -/
theorem reportsAnswerTheState : Obligations.ReportsAnswerTheState := by
  unfold Obligations.ReportsAnswerTheState
  refine ⟨fun tag group s h => ⟨?alloc, ?group⟩,
    fun tag zone channel input station s h => ⟨?zone, ?channel, ?input, ?station⟩⟩
  case alloc =>
    rw [exec_allocReport h]
    simp only [State.allocReport, secondsLeft_eq_wholeSeconds, State.plant_total, State.plant_countIn]
  case group =>
    rw [exec_groupReport h]
    simp only [State.groupReport, Plant.groupIn, State.plant_sumGroup, Channel.counted_eq_draws, GroupDef.refill,
      GroupDef.capacity, decide_eq_true_eq]
  case zone =>
    rw [exec_zoneReport h]
    simp only [State.zoneReport, secondsLeft_eq_wholeSeconds]
  case channel =>
    rw [exec_channelReport h]
    simp only [State.channelReport, secondsLeft_eq_wholeSeconds, Channel.level_eq, Channel.counted_eq_draws,
      positionIn_eq_findIdx?]
  case input =>
    rw [exec_inputReport h]
    simp only [LogicalInput.defined_eq_false]
    split
    · rfl
    · split
      · rfl
      · next hdefined =>
        simp only [State.inputReport, State.evaluated_of_defined _ _ hdefined, positionIn_eq_findIdx?,
          funext (State.lentTo_eq_find? _)]
        rfl
  case station =>
    rw [exec_stationReport h]
    simp only [State.stationReport]

end Sys2Proof.Machine
end

section
/-! SUPPORT. The requests of R31 and R32 over a run of moves: a release, a fault or a grant touches no request but the exercise
request, and forms the requests again where it changed one. -/

namespace Sys2Proof.Machine

/-! ## The requests of the channel tables -/

/-- The drawn and combined requests of the channel tables stand as R31 and R32 form them in a part mode. -/
def Plant.Formed (mode : PartMode) (p : Plant) : Prop :=
  ∀ c,
    ((p.ch c).drawn = true ↔
      (p.ch c).defined = true ∧
      ∃ d, (p.ch d).defined = true ∧ (p.ch d).defn.prerequisite = some c ∧ (p.ch d).combined = true) ∧
    ((p.ch c).combined = true ↔
      (p.ch c).defined = true ∧ (p.ch c).inhibit = false ∧ (mode = .run ∨ mode = .fallback) ∧
      ((p.ch c).own = true ∨ (p.ch c).drawn = true ∨ (p.ch c).prompt = true ∨ (p.ch c).exercise = true))

/-- The part's statement is about its channel tables in its part mode. -/
theorem State.requestsFormed_iff {s : State} :
    s.RequestsFormed ↔ (s.phase = .operating → s.plant.Formed s.ctl.mode) := Iff.rfl

/-- Two records agree on what the forming reads and gives, but for the exercise request. -/
structure Channel.SameRequests (x y : Channel) : Prop where
  defined : y.defined = x.defined
  defn : y.defn = x.defn
  own : y.own = x.own
  prompt : y.prompt = x.prompt
  inhibit : y.inhibit = x.inhibit
  drawn : y.drawn = x.drawn
  combined : y.combined = x.combined

theorem Channel.SameRequests.refl (x : Channel) : x.SameRequests x := ⟨rfl, rfl, rfl, rfl, rfl, rfl, rfl⟩

theorem Channel.SameRequests.trans {x y z : Channel} (h : x.SameRequests y) (k : y.SameRequests z) : x.SameRequests z :=
  ⟨k.1.trans h.1, k.2.trans h.2, k.3.trans h.3, k.4.trans h.4, k.5.trans h.5, k.6.trans h.6, k.7.trans h.7⟩

theorem Channel.sameRequests_released (x : Channel) : x.SameRequests x.released := by
  unfold Channel.released Channel.rest
  simp only
  split <;> exact ⟨rfl, rfl, rfl, rfl, rfl, rfl, rfl⟩

/-- Two channel tables agree so, record by record. -/
def Plant.SameRequests (p q : Plant) : Prop := ∀ c, (p.ch c).SameRequests (q.ch c)

theorem Plant.SameRequests.refl (p : Plant) : p.SameRequests p := fun _ => .refl _

theorem Plant.SameRequests.trans {p q r : Plant} (h : p.SameRequests q) (k : q.SameRequests r) : p.SameRequests r :=
  fun c => (h c).trans (k c)

/-- A record as it stands after a write, whatever the number written. -/
theorem Plant.ch_setCh (p : Plant) (c d : Nat) (x : Channel) :
    (p.setCh c x).ch d = if c = d ∧ c < 32 then x else p.ch d := Table.get_set _ _ _ _ _

theorem Plant.sameRequests_setCh (p : Plant) (c : Nat) {x : Channel} (h : (p.ch c).SameRequests x) :
    p.SameRequests (p.setCh c x) := by
  intro d
  rw [Plant.ch_setCh]
  split
  · next e => exact e.1 ▸ h
  · exact .refl _

theorem Plant.sameRequests_mapCh (p : Plant) (f : Nat → Channel → Channel) (h : ∀ c x, Channel.SameRequests x (f c x)) :
    p.SameRequests (p.mapCh f) := by
  intro d
  by_cases hd : d < 32
  · rw [Plant.ch_mapCh _ _ hd]; exact h _ _
  · have hout : (p.mapCh f).ch d = p.ch d := by simp [Plant.ch, Table.get_of_le _ _ (show 32 ≤ d by omega)]
    rw [hout]; exact .refl _

/-! ## What keeps the requests formed -/

section
variable {mode : PartMode} {p q : Plant}

/-- Tables that agree on the exercise requests as well stand formed together, in modes that both allow or both forbid requests. -/
theorem Plant.Formed.congr (h : p.Formed mode) (hs : p.SameRequests q) (hx : ∀ c, (q.ch c).exercise = (p.ch c).exercise)
    {mode' : PartMode} (hm : mode' = .run ∨ mode' = .fallback ↔ mode = .run ∨ mode = .fallback) : q.Formed mode' := by
  intro c
  have hd : ∀ d, (q.ch d).defined = (p.ch d).defined := fun d => (hs d).defined
  have hq : ∀ d, (q.ch d).defn = (p.ch d).defn := fun d => (hs d).defn
  have hc : ∀ d, (q.ch d).combined = (p.ch d).combined := fun d => (hs d).combined
  simp only [hd, hq, hc, hx, hm, (hs c).own, (hs c).prompt, (hs c).inhibit, (hs c).drawn]
  exact h c

/-- One record replaced by one with the same requests. -/
theorem Plant.Formed.setCh (h : p.Formed mode) (c : Nat) {x : Channel} (hs : (p.ch c).SameRequests x)
    (hx : x.exercise = (p.ch c).exercise) : (p.setCh c x).Formed mode := by
  refine h.congr (Plant.sameRequests_setCh p c hs) (fun d => ?_) Iff.rfl
  rw [Plant.ch_setCh]
  split
  · next e => rw [hx, e.1]
  · rfl

/-- In a mode that forbids requests, formed means that no channel is drawn or requests (R32). -/
theorem Plant.formed_iff_of_forbidden (hm : ¬ (mode = .run ∨ mode = .fallback)) :
    p.Formed mode ↔ ∀ c, (p.ch c).drawn = false ∧ (p.ch c).combined = false := by
  constructor
  · intro h
    have hc : ∀ c, (p.ch c).combined = false := fun c => by
      have := (h c).2
      simpa [hm] using this
    exact fun c => ⟨by have := (h c).1; simpa [hc] using this, hc c⟩
  · intro h c
    simp [(h _).1, (h _).2, hm]

end

/-! ## Forming -/

theorem length_combinedRequests (mode : PartMode) (t : Table Channel 32) : (combinedRequests mode t.rows).length = 32 := by
  have hs := t.size
  rw [← combinedRequests_fixed mode t.rows (by omega), length_combinedRound, hs]

/-- A channel is drawn from a list of combined requests exactly when a defined channel that names it requests there (R31). -/
theorem drawnFrom_iff (t : Table Channel 32) {b : List Bool} (hb : b.length = 32) (c : Nat) :
    drawnFrom t.rows b c = true ↔
      ∃ d, (t.get {} d).defined = true ∧ (t.get {} d).defn.prerequisite = some c ∧ b.getD d false = true := by
  have hs := t.size
  have hrow (d : Nat) (hd : d < t.rows.length) : t.rows[d] = t.get {} d := by
    simp [Table.get, List.getD_eq_getElem?_getD, hd]
  have hentry (d : Nat) (hd : d < b.length) : b[d] = b.getD d false := by simp [List.getD_eq_getElem?_getD, hd]
  unfold drawnFrom
  simp only [List.any_eq_true, Bool.and_eq_true, decide_eq_true_eq, List.mem_iff_getElem]
  constructor
  · rintro ⟨_, ⟨d, hd, rfl⟩, ⟨hdef, hpre⟩, hreq⟩
    simp only [List.getElem_zip, hrow, hentry] at hdef hpre hreq
    exact ⟨d, hdef, hpre, hreq⟩
  · rintro ⟨d, hdef, hpre, hreq⟩
    have hlt : d < 32 := by
      by_contra hc
      simp [Table.get_of_le t ({} : Channel) (show 32 ≤ d by omega)] at hdef
    refine ⟨_, ⟨d, by simp [hs, hb, hlt], rfl⟩, ?_⟩
    simp only [List.getElem_zip, hrow, hentry]
    exact ⟨⟨hdef, hpre⟩, hreq⟩

/-- Forming the requests leaves them formed: the combined requests are a fixed point of the rounds (R31, R32). -/
theorem Plant.formed_formRequests (mode : PartMode) (p : Plant) : (p.formRequests mode).Formed mode := by
  have hsteady : p.Steady (p.formRequests mode) :=
    Plant.steady_mapCh p _ (fun _ _ => ⟨rfl, rfl, rfl, rfl, rfl, rfl, rfl, rfl, rfl⟩)
  have hin : ∀ c, c < 32 →
      ((p.formRequests mode).ch c).exercise = (p.ch c).exercise ∧
      ((p.formRequests mode).ch c).combined = (combinedRequests mode p.chan.channels.rows).getD c false ∧
      ((p.formRequests mode).ch c).drawn =
        ((p.ch c).defined && drawnFrom p.chan.channels.rows (combinedRequests mode p.chan.channels.rows) c) := by
    intro c hc
    unfold Plant.formRequests
    simp only [Plant.ch_mapCh _ _ hc, and_self]
  have hdraw (c : Nat) : drawnFrom p.chan.channels.rows (combinedRequests mode p.chan.channels.rows) c = true ↔
      ∃ d, (p.ch d).defined = true ∧ (p.ch d).defn.prerequisite = some c ∧
        ((p.formRequests mode).ch d).combined = true := by
    rw [drawnFrom_iff _ (length_combinedRequests mode _)]
    refine exists_congr fun d => and_congr_right fun hd => ?_
    rw [(hin d (Plant.lt_of_defined hd)).2.1]
    rfl
  intro c
  simp only [(hsteady.ch _).defined, (hsteady.ch _).defn, (hsteady.ch _).inhibit, (hsteady.ch _).own, (hsteady.ch _).prompt]
  by_cases hc : c < 32
  · obtain ⟨hx, hcomb, hdrawn⟩ := hin c hc
    have hget := combinedRequests_get mode p.chan.channels c hc
    have hmode : mode.forcesFalse = false ↔ mode = .run ∨ mode = .fallback := by cases mode <;> decide
    refine ⟨by rw [hdrawn, Bool.and_eq_true, hdraw], ?_⟩
    rw [hx, hcomb, hget, hdrawn, ← hmode]
    change ((p.ch c).defined && !(p.ch c).inhibit && !mode.forcesFalse && ((p.ch c).own || (p.ch c).prompt ||
      (p.ch c).exercise || drawnFrom _ _ c)) = true ↔ _
    simp only [Bool.and_eq_true, Bool.or_eq_true, Bool.not_eq_true']
    tauto
  · have hout : p.ch c = {} ∧ (p.formRequests mode).ch c = {} :=
      ⟨Table.get_of_le _ _ (by omega), Table.get_of_le _ _ (by omega)⟩
    simp [hout.1, hout.2]

/-- Forming again, with the channels' answers, ends with a forming (R32, R40, R43). -/
theorem Plant.formed_reform (mode : PartMode) (p : Plant) : (p.reform mode).Formed mode := by
  unfold Plant.reform
  generalize 33 = k
  induction k generalizing p with
  | zero => exact Plant.formed_formRequests mode p
  | succ k ih =>
    simp only [Plant.reformLoop]
    split
    · exact Plant.formed_formRequests mode p
    · exact ih _

/-- The exercise requests agree exactly when every record's does. -/
theorem Plant.exercise_of_exerciseRequests {p q : Plant} (h : q.exerciseRequests = p.exerciseRequests) (c : Nat) :
    (q.ch c).exercise = (p.ch c).exercise := by
  have hget (r : Plant) : (r.ch c).exercise = r.exerciseRequests.getD c false := by
    by_cases hc : c < 32 <;>
      simp [Plant.ch, Plant.exerciseRequests, Table.get, List.getD_eq_getElem?_getD, r.chan.channels.size, hc]
  rw [hget q, hget p, h]

/-- An event that touches no request but the exercise requests leaves the requests formed, by the forming that follows a change of
one (R159). -/
theorem Plant.Formed.reformAfter {mode : PartMode} {p q : Plant} (h : p.Formed mode) (hs : p.SameRequests q) :
    (Plant.reformAfter mode p q).Formed mode := by
  unfold Plant.reformAfter
  split
  · next hx => exact h.congr hs (Plant.exercise_of_exerciseRequests hx) Iff.rfl
  · exact Plant.formed_reform mode q

/-! ## Releases and faults -/

theorem Plant.sameRequests_retire (p : Plant) (c : Nat) : p.SameRequests (p.retire c) :=
  Plant.sameRequests_setCh p c (Channel.sameRequests_released _)

theorem Plant.sameRequests_strike (p : Plant) (c : Nat) : p.SameRequests (p.strike c) :=
  Plant.sameRequests_setCh p c ⟨rfl, rfl, rfl, rfl, rfl, rfl, rfl⟩

theorem Plant.sameRequests_interrupt (p : Plant) (cause : PostponedCause) (c : Nat) :
    p.SameRequests (p.interrupt cause c) := by
  unfold Plant.interrupt
  split
  · have hrecs : ∀ d, ([0, 1].foldl (fun q r =>
        if (q.exRec r).bound = some c then
          (q.setRec r { q.exRec r with retry := some retryTime }).notice
            (.exercisePostponed c cause ((q.exRec r).runTime / 1000))
        else q) p).ch d = p.ch d := by
      refine foldl_keeps (P := fun q : Plant => ∀ d, q.ch d = p.ch d) _ (fun q r _ hq d => ?_) p (fun _ => rfl)
      split
      · exact hq d
      · exact hq d
    refine Plant.SameRequests.trans (fun d => ?_) (Plant.sameRequests_setCh _ c ?_)
    · rw [hrecs]; exact .refl _
    · rw [hrecs]; exact ⟨rfl, rfl, rfl, rfl, rfl, rfl, rfl⟩
  · exact .refl p

/-- A release with its cascade changes no request but exercise requests (R44, R51, R162). -/
theorem Plant.sameRequests_releaseTree (k c : Nat) (p : Plant) : p.SameRequests (p.releaseTree k c) := by
  induction k generalizing c p with
  | zero => exact .refl p
  | succ k ih =>
    rw [Plant.releaseTree_succ]
    have hretire : p.SameRequests (p.retire c) := Plant.sameRequests_retire p c
    split
    · refine Plant.SameRequests.trans ?_ (Plant.sameRequests_interrupt _ _ _)
      split
      · exact foldl_keeps _ (fun q d _ hq => hq.trans (ih d q)) _ hretire
      · exact hretire
    · exact .refl p

/-- Of the requests a fault, too, changes exercise requests alone, before the forming that ends it (R47). -/
theorem Plant.Formed.fault {mode : PartMode} {p : Plant} (h : p.Formed mode) (c : Nat) : (p.fault mode c).Formed mode := by
  rw [Plant.fault_eq]
  split
  · apply h.reformAfter
    have hstrike : p.SameRequests (p.strike c) := Plant.sameRequests_strike p c
    have hcascade : p.SameRequests (if (p.ch c).state = .running then
        (((p.strike c).stopRunTimer c).dependents c).foldl (fun q d => q.releaseTree 33 d) ((p.strike c).stopRunTimer c)
      else p.strike c) := by
      split
      · exact foldl_keeps _ (fun q d _ hq => hq.trans (Plant.sameRequests_releaseTree 33 d q)) _ hstrike
      · exact hstrike
    split
    · exact Plant.SameRequests.trans hcascade (Plant.sameRequests_interrupt (Plant.notice _ _) _ _)
    · exact hcascade
  · exact h

namespace Plant.Formed

variable {mode : PartMode} {p : Plant}

theorem release (h : p.Formed mode) (c : Nat) : (p.release mode c).Formed mode :=
  h.reformAfter (Plant.sameRequests_releaseTree 33 c p)

theorem releaseEach (h : p.Formed mode) (cs : List Nat) : (p.releaseEach mode cs).Formed mode :=
  foldl_keeps (P := Plant.Formed mode) cs (fun _ c _ hq => hq.release c) p h

theorem shed (h : p.Formed mode) (ceiling k : Nat) : (p.shed mode ceiling k).Formed mode := by
  induction k generalizing p with
  | zero => exact h
  | succ k ih =>
    simp only [Plant.shed]
    split
    · split
      · exact h
      · exact ih (h.release _)
    · exact h

theorem forcedRelease (h : p.Formed mode) (ceiling threshold : Nat) : (p.forcedRelease mode ceiling threshold).Formed mode :=
  (h.releaseEach _).shed _ _

/-! ## Grants -/

theorem toRunning (h : p.Formed mode) (c : Nat) : (p.toRunning c).Formed mode :=
  h.setCh c ⟨rfl, rfl, rfl, rfl, rfl, rfl, rfl⟩ rfl

theorem startUp (h : p.Formed mode) (c : Nat) : (p.startUp c).Formed mode :=
  h.setCh c ⟨rfl, rfl, rfl, rfl, rfl, rfl, rfl⟩ rfl

theorem takeBack (h : p.Formed mode) (c : Nat) : (p.takeBack c).Formed mode :=
  h.setCh c ⟨rfl, rfl, rfl, rfl, rfl, rfl, rfl⟩ rfl

theorem enterRunning (h : p.Formed mode) (c : Nat) : (p.enterRunning mode c).Formed mode := by
  have e : p.enterRunning mode c =
      if (p.ch c).defn.minOn = 0 ∧ (p.ch c).combined = false then (p.toRunning c).release mode c else p.toRunning c := rfl
  rw [e]
  split
  · exact (h.toRunning c).release c
  · exact h.toRunning c

theorem startChannel (h : p.Formed mode) (c : Nat) : (p.startChannel mode c).Formed mode := by
  have e : p.startChannel mode c =
      if (p.ch c).sense then (p.startUp c).fault mode c
      else if (p.ch c).defn.startTime = 0 then (p.startUp c).enterRunning mode c else p.startUp c := rfl
  rw [e]
  split
  · exact (h.startUp c).fault c
  · split
    · exact (h.startUp c).enterRunning c
    · exact h.startUp c

/-- A grant, as it finds the channel, leaves the requests formed (R52). -/
theorem grant (h : p.Formed mode) (c : Nat) : (p.grant mode c).Formed mode := by
  unfold Plant.grant
  simp only
  split
  · split
    case h_1 => exact h.startChannel c
    case h_2 =>
      split
      · exact (h.takeBack c).enterRunning c
      · exact h
    all_goals exact h
  · exact h

/-- A slot decision leaves the requests formed: of its moves only grants and releases reach a request (R66). -/
theorem slotDecision (h : p.Formed mode) (w : Nat) (alloc : Allocator) :
    (Decision.make mode w alloc p).plant.Formed mode := by
  have hkept : Decision.Kept mode (fun d => d.plant.Formed mode) :=
    { rotaGrant := fun d c k hd _ _ _ _ => by rw [Decision.plant_grant]; exact hd.grant c
      grant := fun d c k hd _ => by rw [Decision.plant_grant]; exact hd.grant c
      release := fun d c hd => hd.release c
      refuseCredit := fun _ _ hd => hd
      refusePeak := fun _ _ hd => hd
      countDisplaced := fun _ _ hd => hd
      countRefused := fun _ hd => hd
      moveCursor := fun _ _ _ hd => hd
      raise := fun d c hd => by
        rcases Decision.plant_raise c d with e | ⟨_, level, e⟩
        · rw [e]; exact hd
        · rw [e]; exact hd.setCh c ⟨rfl, rfl, rfl, rfl, rfl, rfl, rfl⟩ rfl }
  unfold Decision.make
  simp only
  apply hkept.stages w
  show (Decision.chargeHeld _).plant.Formed mode
  rw [Decision.plant_chargeHeld]
  exact h

/-- The prompt grant offered to one channel leaves the requests formed (R112). -/
theorem offer {g : PromptGrants} (h : g.decision.plant.Formed mode) (c : Nat) : (g.offer mode c).decision.plant.Formed mode := by
  unfold PromptGrants.offer
  simp only
  split
  · exact h
  · split
    · split
      · exact h.grant c
      · split
        · exact h
        · split <;> exact h
    · exact h

end Plant.Formed

end Sys2Proof.Machine
end

section
/-! SUPPORT. The requests of R31 and R32 over every command: each block's operations keep them formed, and with them every request's
taking, every event and the passing of time. -/

namespace Sys2Proof.Machine

/-! ## The channel controller's events -/

namespace Plant.Formed

variable {mode : PartMode} {p : Plant}

theorem startEnd (h : p.Formed mode) (c : Nat) : (p.startEnd mode c).Formed mode := by
  unfold Plant.startEnd
  split
  · exact h.enterRunning c
  · exact h

theorem minimumOnEnd (h : p.Formed mode) (c : Nat) : (p.minimumOnEnd mode c).Formed mode := by
  have hset : (p.setCh c { p.ch c with minOnExpired := true, timer := none }).Formed mode :=
    h.setCh c ⟨rfl, rfl, rfl, rfl, rfl, rfl, rfl⟩ rfl
  unfold Plant.minimumOnEnd
  simp only
  split
  · split
    · exact hset
    · exact hset.release c
  · exact h

theorem afterRunEnd (h : p.Formed mode) (c : Nat) : (p.afterRunEnd c).Formed mode := by
  unfold Plant.afterRunEnd
  split
  · exact h.setCh c ⟨rfl, rfl, rfl, rfl, rfl, rfl, rfl⟩ rfl
  · exact h

theorem minimumOffEnd (h : p.Formed mode) (c : Nat) : (p.minimumOffEnd c).Formed mode := by
  unfold Plant.minimumOffEnd
  split
  · exact h.setCh c ⟨rfl, rfl, rfl, rfl, rfl, rfl, rfl⟩ rfl
  · exact h

theorem backoffEnd (h : p.Formed mode) (c : Nat) : (p.backoffEnd c).Formed mode := by
  unfold Plant.backoffEnd
  split
  · split <;> exact h.setCh c ⟨rfl, rfl, rfl, rfl, rfl, rfl, rfl⟩ rfl
  · exact h

theorem cleanRunEnd (h : p.Formed mode) (c : Nat) : (p.cleanRunEnd c).Formed mode := by
  unfold Plant.cleanRunEnd
  split
  · exact h
  · exact h.setCh c ⟨rfl, rfl, rfl, rfl, rfl, rfl, rfl⟩ rfl

theorem senseChange (h : p.Formed mode) (c : Nat) (asserted : Bool) : (p.senseChange mode c asserted).Formed mode := by
  have hset : (p.setCh c { p.ch c with sense := asserted }).Formed mode :=
    h.setCh c ⟨rfl, rfl, rfl, rfl, rfl, rfl, rfl⟩ rfl
  unfold Plant.senseChange
  simp only
  split
  · exact hset.fault c
  · exact hset

end Plant.Formed

/-- The exercise request of a record's bound channel is the only request that forming it changes (R159). -/
theorem Plant.sameRequests_formExercise (r : Nat) (p : Plant) : p.SameRequests (p.formExercise r) := by
  unfold Plant.formExercise
  split
  · exact .refl p
  · exact Plant.sameRequests_setCh p _ ⟨rfl, rfl, rfl, rfl, rfl, rfl, rfl⟩

theorem Plant.sameRequests_dueFormed (r : Nat) (x : ExerciseRecord) (p : Plant) : p.SameRequests (p.dueFormed r x) := by
  unfold Plant.dueFormed
  simp only
  split
  · exact .refl p
  · exact Plant.sameRequests_formExercise r (p.setRec r x)

theorem Plant.sameRequests_rebind (p : Plant) : p.SameRequests p.rebind :=
  Plant.sameRequests_mapCh _ _ (fun _ _ => ⟨rfl, rfl, rfl, rfl, rfl, rfl, rfl⟩)

namespace Plant.Formed

variable {mode : PartMode} {p : Plant}

theorem hourEnd (h : p.Formed mode) (interval r : Nat) : (p.hourEnd mode interval r).Formed mode := by
  unfold Plant.hourEnd
  split
  · exact h
  · split
    · exact h
    · exact h.reformAfter (Plant.sameRequests_dueFormed _ _ _)

theorem retryEnd (h : p.Formed mode) (r : Nat) : (p.retryEnd mode r).Formed mode := by
  unfold Plant.retryEnd
  split
  · exact h
  · exact h.reformAfter (Plant.sameRequests_formExercise r (p.setRec r _))

theorem satisfy (h : p.Formed mode) (duration r : Nat) : (p.satisfy mode duration r).Formed mode := by
  unfold Plant.satisfy
  split
  · exact h
  · split
    · apply h.reformAfter
      split
      · exact Plant.sameRequests_formExercise r ((p.notice _).setRec r _)
      · exact Plant.sameRequests_formExercise r (p.setRec r _)
    · exact h

/-- Both exercise records at a new interval, and the requests formed again where that changed one (R158, R159). -/
theorem atIntervals (h : p.Formed mode) (interval : Nat) :
    (Plant.reformAfter mode p ((p.atInterval interval 0).atInterval interval 1)).Formed mode :=
  h.reformAfter ((Plant.sameRequests_dueFormed _ _ p).trans (Plant.sameRequests_dueFormed _ _ _))

/-- A channel redefined or removed in a mode that forbids requests, with the binding formed again (R26, R27, R157). -/
theorem redefined (h : p.Formed mode) (hm : ¬ (mode = .run ∨ mode = .fallback)) (c : Nat) {x : Channel}
    (hx : x.drawn = false ∧ x.combined = false) : (p.setCh c x).rebind.Formed mode := by
  rw [Plant.formed_iff_of_forbidden hm] at h ⊢
  intro d
  have hsame := Plant.sameRequests_rebind (p.setCh c x) d
  rw [hsame.drawn, hsame.combined, Plant.ch_setCh]
  split
  · exact hx
  · exact h d

end Plant.Formed

/-- A redefined channel neither is drawn nor requests (R26). -/
theorem channelRedefined_unrequested (status : AmbientStatus) (ambient : Int) (d : ChannelDef) (x : Channel) :
    (channelRedefined status ambient d x).drawn = false ∧ (channelRedefined status ambient d x).combined = false := by
  unfold channelRedefined
  simp only
  split <;> exact ⟨rfl, rfl⟩

/-- The channels of a start-up neither are drawn nor request (R53). -/
theorem channelsFrom_unrequested (x : StoredConfig) (latched : Nat → Bool) (pins : Table Bool 32) (c : Nat) :
    ((channelsFrom x latched pins).get {} c).drawn = false ∧ ((channelsFrom x latched pins).get {} c).combined = false := by
  by_cases hc : c < 32
  · unfold channelsFrom
    rw [Table.get_mapIdx _ _ none _ hc]
    split <;> exact ⟨rfl, rfl⟩
  · rw [Table.get_of_le _ _ (by omega)]
    exact ⟨rfl, rfl⟩

theorem Plant.formed_ambientSweep (mode : PartMode) (out : LogicalInput) (p : Plant) : (p.ambientSweep mode out).Formed mode := by
  unfold Plant.ambientSweep
  exact Plant.formed_reform mode _

theorem Plant.formed_takeUpdate (mode : PartMode) (zones : Table Zone 12) (u : Table ZoneDemand 12) (p : Plant) :
    (p.takeUpdate mode zones u).Formed mode := by
  unfold Plant.takeUpdate
  exact Plant.formed_reform mode _

theorem Plant.formed_atRunEntry (p : Plant) : p.atRunEntry.Formed .run := by
  unfold Plant.atRunEntry
  exact Plant.formed_reform .run _

theorem Plant.formed_atWindDown (p : Plant) : p.atWindDown.Formed .windDown :=
  (Plant.formed_formRequests .windDown p.endPrompts).releaseEach _

/-! ## What leaves the channel tables and the part mode -/

/-- A new zone table, with the changes reported to the station line, leaves the mode controller (R7). -/
@[simp] theorem State.mapZones_ctl (s : State) (f : Nat → Zone → Zone) : (s.mapZones f).ctl = s.ctl :=
  foldl_keeps (P := fun t : State => t.ctl = s.ctl) (f := State.reportChange) _ (fun _ _ _ ht => ht) _ rfl

/-- The channel tables as an event left them, formed in the part mode as it stands. -/
theorem State.requestsFormed_withPlant (s : State) {p : Plant} (h : p.Formed s.ctl.mode) : (s.withPlant p).RequestsFormed :=
  State.requestsFormed_iff.2 fun _ => h

/-- The channel controller's answer to the entry to a part mode, where it always leaves the requests formed in that mode. -/
theorem State.requestsFormed_entry {s : State} {mode : PartMode} (hm : s.ctl.mode = mode) {f : Plant → Plant}
    (hf : ∀ p, (f p).Formed mode) : (s.onPlant f).RequestsFormed := by
  subst hm
  exact State.requestsFormed_withPlant s (hf s.plant)

namespace State.RequestsFormed

variable {s : State}

/-! ### The named updates -/

theorem updZones (h : s.RequestsFormed) (f : Table Zone 12 → Table Zone 12) : (s.updZones f).RequestsFormed := h
theorem updDoors (h : s.RequestsFormed) (f : Table DoorGroup 4 → Table DoorGroup 4) : (s.updDoors f).RequestsFormed := h
theorem updAlloc (h : s.RequestsFormed) (f : Allocator → Allocator) : (s.updAlloc f).RequestsFormed := h
theorem updLine (h : s.RequestsFormed) (f : StationLine → StationLine) : (s.updLine f).RequestsFormed := h
theorem updSel (h : s.RequestsFormed) (f : Selector → Selector) : (s.updSel f).RequestsFormed := h
theorem updLink (h : s.RequestsFormed) (f : LinkPort → LinkPort) : (s.updLink f).RequestsFormed := h
theorem updStore (h : s.RequestsFormed) (f : Store → Store) : (s.updStore f).RequestsFormed := h
theorem setSettings (h : s.RequestsFormed) (x : Settings) : (s.setSettings x).RequestsFormed := h
theorem setSensePins (h : s.RequestsFormed) (x : Table Bool 32) : (s.setSensePins x).RequestsFormed := h
theorem setFreeCount (h : s.RequestsFormed) (n : Nat) : (s.setFreeCount n).RequestsFormed := h
theorem setPending (h : s.RequestsFormed) (q : List Instr) : (s.setPending q).RequestsFormed := h

/-- The mode controller's update leaves the requests formed where the part mode allows them after it exactly if before (R32;
log 31). -/
theorem updCtl (h : s.RequestsFormed) {f : ModeCtl → ModeCtl}
    (hf : (f s.ctl).mode = .run ∨ (f s.ctl).mode = .fallback ↔ s.ctl.mode = .run ∨ s.ctl.mode = .fallback) :
    (s.updCtl f).RequestsFormed :=
  State.requestsFormed_iff.2 fun hp =>
    (State.requestsFormed_iff.1 h hp).congr (.refl _) (fun _ => rfl) hf

/-- The channel controller's update leaves the requests formed where it leaves the channel records. -/
theorem updChan (h : s.RequestsFormed) {f : ChannelCtl → ChannelCtl} (hf : (f s.chan).channels = s.chan.channels) :
    (s.updChan f).RequestsFormed := by
  intro hp
  simp only [State.channel, State.updChan_chan, hf]
  exact h hp

/-- What keeps the channel tables' requests formed in the part mode keeps the part's. -/
theorem onPlant (h : s.RequestsFormed) {f : Plant → Plant} (hf : s.plant.Formed s.ctl.mode → (f s.plant).Formed s.ctl.mode) :
    (s.onPlant f).RequestsFormed :=
  State.requestsFormed_iff.2 fun hp => hf (State.requestsFormed_iff.1 h hp)

/-! ### The operations every block shares -/

theorem notifyAll (h : s.RequestsFormed) (ns : List Notice) : (s.notifyAll ns).RequestsFormed := h.updLink _

theorem notify (h : s.RequestsFormed) (n : Notice) : (s.notify n).RequestsFormed := h.updLink _

theorem reply (h : s.RequestsFormed) (kind tag : Nat) (code : ResultCode) (content : Content) :
    (s.reply kind tag code content).RequestsFormed := h.updLink _

theorem pump (h : s.RequestsFormed) : s.pump.RequestsFormed := by
  rw [State.pump_eq]
  exact h.updLink (fun _ => s.pump.link)

theorem leaveFallback (h : s.RequestsFormed) (hm : s.ctl.mode = .fallback) (cause : LeftCause) :
    (s.leaveFallback cause).RequestsFormed :=
  (((h.notify _).updCtl (iff_of_true (.inl rfl) (.inr hm))).updLink _).updAlloc _

theorem endFallback (h : s.RequestsFormed) (cause : LeftCause) : (s.endFallback cause).RequestsFormed := by
  unfold State.endFallback
  split
  · next hm => exact h.leaveFallback hm cause
  all_goals exact h

/-- An event of the operating part keeps what its effect keeps. -/
theorem event (h : s.RequestsFormed) {f : State → State} (hf : s.RequestsFormed → (f s).RequestsFormed) :
    (s.event f).RequestsFormed := by
  unfold State.event
  split
  · exact (hf h).pump
  all_goals exact h

/-- A request command keeps what the request's taking keeps. -/
theorem submit (h : s.RequestsFormed) (i : Instr) {act : State → State}
    (hact : ∀ u : State, u.RequestsFormed → (act u).RequestsFormed) : (s.submit i act).RequestsFormed := by
  refine h.event fun h => ?_
  split
  · exact hact _ ((h.updLink _).endFallback _)
  · split <;> exact h.updLink _

theorem configure (h : s.RequestsFormed) (kind tag : Nat) (checks : List (Nat × Bool)) {act : State → State}
    (hact : s.ctl.mode = .standby → (act s).RequestsFormed) : (s.configure kind tag checks act).RequestsFormed := by
  unfold State.configure
  split
  · next hm =>
    split
    · exact h.reply _ _ _ _
    · exact hact hm
  · exact h.reply _ _ _ _

theorem onItem (h : s.RequestsFormed) (kind tag : Nat) (inRange defined : Bool) {act : State → State}
    (hact : (act s).RequestsFormed) : (s.onItem kind tag inRange defined act).RequestsFormed := by
  unfold State.onItem
  split
  · split
    · exact hact
    · exact h.reply _ _ _ _
  · exact h.reply _ _ _ _

/-! ## Zones and the station line -/

theorem mapZones (h : s.RequestsFormed) (f : Nat → Zone → Zone) : (s.mapZones f).RequestsFormed :=
  foldl_keeps _ (fun _ _ _ ht => ht.updLine _) _ (h.updZones _)

theorem setZone (h : s.RequestsFormed) (n : Nat) (z : Zone) : (s.setZone n z).RequestsFormed := h.updZones _

theorem putZone (h : s.RequestsFormed) (n : Nat) (z : Zone) : (s.putZone n z).RequestsFormed := by
  unfold State.putZone
  split
  · exact (h.setZone n z).updLine _
  · exact h.setZone n z

theorem setSweep (h : s.RequestsFormed) (w : Option Sweep) : (s.setSweep w).RequestsFormed := h.updLine _

theorem setStation (h : s.RequestsFormed) (i : Nat) (x : Station) : (s.setStation i x).RequestsFormed := h.updLine _

theorem sweepStep (h : s.RequestsFormed) (w : Sweep) : (s.sweepStep w).RequestsFormed := by
  unfold State.sweepStep
  split
  · exact h.updLine _
  · exact h.setSweep _

theorem startSweep (h : s.RequestsFormed) (kind : SweepKind) (tag : Option Nat) : (s.startSweep kind tag).RequestsFormed :=
  h.sweepStep _

theorem endRead (h : s.RequestsFormed) (w : Sweep) (p : Poll) (a : Attempt) : (s.endRead w p a).RequestsFormed := by
  unfold State.endRead
  split
  · simp only
    split
    · exact (h.setStation _ _).setSweep _
    · exact (h.setStation _ _).sweepStep _
  all_goals exact (h.setStation _ _).sweepStep _

theorem endWrite (h : s.RequestsFormed) (w : Sweep) (p : Poll) (a : Attempt) : (s.endWrite w p a).RequestsFormed := by
  unfold State.endWrite
  split <;> exact (h.setStation _ _).sweepStep _

theorem endPoll (h : s.RequestsFormed) (w : Sweep) (p : Poll) (a : Attempt) : (s.endPoll w p a).RequestsFormed := by
  unfold State.endPoll
  split
  · exact h.sweepStep _
  · split
    · exact h.endRead w p a
    · exact h.endWrite w p a

theorem endAttempt (h : s.RequestsFormed) (w : Sweep) (p : Poll) (a : Attempt) : (s.endAttempt w p a).RequestsFormed := by
  unfold State.endAttempt
  split
  · exact h.endPoll w p _
  all_goals
    split
    · exact h.endPoll w p _
    · exact h.setSweep _

theorem atPoll (h : s.RequestsFormed) (attempt : Poll → Attempt) : (s.atPoll attempt).RequestsFormed := by
  unfold State.atPoll
  split
  · exact h
  · split
    · exact h
    · exact h.endAttempt _ _ _

theorem sweepDue (h : s.RequestsFormed) : s.sweepDue.RequestsFormed := by
  unfold State.sweepDue
  split
  · exact h
  · simp only
    split
    · exact (h.updLine _).startSweep _ _
    · exact (h.updLine _).updLine _

theorem atSelector (h : s.RequestsFormed) : s.atSelector.RequestsFormed := by
  unfold State.atSelector
  split
  · exact h
  · split
    · exact ((h.updSel _).notifyAll _).setSweep _
    all_goals exact h

theorem completionTaken (h : s.RequestsFormed) (w : Sweep) (zoneTaken ambientTaken : Bool) :
    (s.completionTaken w zoneTaken ambientTaken).RequestsFormed := by
  unfold State.completionTaken
  split
  · split
    · exact h.setSweep _
    · exact (h.setSweep _).reply _ _ _ _
  · exact h.setSweep _

theorem computationEvent (h : s.RequestsFormed) : s.computationEvent.RequestsFormed :=
  (h.mapZones s.computeZone).updChan rfl

theorem zonesTake (h : s.RequestsFormed) (kind : SweepKind) : (s.zonesTake kind).RequestsFormed := by
  have hholds : s.applyInputHolds.RequestsFormed := h.updZones _
  unfold State.zonesTake
  split
  case h_1 | h_3 => exact hholds.computationEvent
  case h_2 | h_4 => exact hholds
  all_goals exact h

theorem atZones (h : s.RequestsFormed) : s.atZones.RequestsFormed := by
  unfold State.atZones
  split
  · exact h
  · split
    · exact (h.zonesTake _).completionTaken _ _ _
    all_goals exact h

/-! ## The channel controller's part of a sweep and of a zone update -/

theorem atAmbient (h : s.RequestsFormed) : s.atAmbient.RequestsFormed := by
  unfold State.atAmbient
  split
  · exact h
  · split
    · exact (h.onPlant fun _ => Plant.formed_ambientSweep _ _ _).completionTaken _ _ _
    all_goals exact h

theorem demandUpdate (h : s.RequestsFormed) : s.demandUpdate.RequestsFormed := by
  unfold State.demandUpdate
  split
  · exact h
  · exact (h.updChan rfl).onPlant fun _ => Plant.formed_takeUpdate _ _ _ _

theorem runOnEnd (h : s.RequestsFormed) (e : Nat) : (s.runOnEnd e).RequestsFormed := by
  unfold State.runOnEnd
  split
  · exact (h.updAlloc _).onPlant fun _ => Plant.formed_reform _ _
  · exact h

theorem doorLimit (h : s.RequestsFormed) (g : Nat) : (s.doorLimit g).RequestsFormed := by
  unfold State.doorLimit
  split
  · exact h
  · exact (h.updDoors _).updZones _

theorem ambientHoldEnd (h : s.RequestsFormed) : (s.updChan ChannelCtl.ambientHoldEnd).RequestsFormed := by
  apply h.updChan
  unfold ChannelCtl.ambientHoldEnd
  split <;> rfl

theorem exerciseHourEnd (h : s.RequestsFormed) (r : Nat) : (s.exerciseHourEnd r).RequestsFormed := by
  unfold State.exerciseHourEnd
  split
  case h_1 | h_2 => exact h.onPlant fun hf => hf.hourEnd _ _
  all_goals exact h

theorem checkpointEnd (h : s.RequestsFormed) : s.checkpointEnd.RequestsFormed := by
  unfold State.checkpointEnd
  split
  case h_1 | h_2 => exact (h.updChan rfl).updStore _
  all_goals exact h

/-! ## The changes of part mode -/

theorem forcedRelease (h : s.RequestsFormed) : s.forcedRelease.RequestsFormed :=
  h.onPlant fun hf => hf.forcedRelease _ _

theorem entryToRun (s : State) : s.entryToRun.RequestsFormed := by
  unfold State.entryToRun
  exact ((State.requestsFormed_entry (by simp) Plant.formed_atRunEntry).updAlloc _).updLink _

theorem tryRun (h : s.RequestsFormed) : s.tryRun.RequestsFormed := by
  unfold State.tryRun
  simp only
  split
  · exact entryToRun _
  · exact h.updCtl Iff.rfl

theorem windDownEntry (s : State) : s.windDownEntry.RequestsFormed := by
  unfold State.windDownEntry
  exact ((State.requestsFormed_entry (by simp [State.closeDoors]) Plant.formed_atWindDown).updAlloc _).updLink _

theorem windDownEnd (h : s.RequestsFormed) (hm : s.ctl.mode = .windDown) : s.windDownEnd.RequestsFormed :=
  ((h.updCtl (by simp [hm])).mapZones _).notify _

theorem windDownCheck (h : s.RequestsFormed) : s.windDownCheck.RequestsFormed := by
  unfold State.windDownCheck
  split
  · next hm =>
    split
    · exact h.windDownEnd hm
    · exact h
  all_goals exact h

theorem lastChannelCheck (h : s.RequestsFormed) : s.lastChannelCheck.RequestsFormed := by
  unfold State.lastChannelCheck
  split
  · exact h
  · exact h.windDownCheck

theorem applySafe (h : s.RequestsFormed) : s.applySafe.RequestsFormed := h.updAlloc _

theorem fallbackEntry (s : State) : s.fallbackEntry.RequestsFormed := by
  unfold State.fallbackEntry
  simp only
  exact (((State.requestsFormed_entry (by simp [State.closeDoors])
    fun p => Plant.formed_reform .fallback p.endPrompts).updAlloc _).updLink _).applySafe.forcedRelease

theorem silence (h : s.RequestsFormed) : s.silence.RequestsFormed := by
  unfold State.silence
  split
  case h_1 => exact fallbackEntry s
  all_goals exact h

theorem staleness (h : s.RequestsFormed) : s.staleness.RequestsFormed := by
  unfold State.staleness
  split
  · exact h
  · exact ((h.updCtl (f := fun m => { m with supplyStale := true }) Iff.rfl).updAlloc _).applySafe.forcedRelease

theorem decideSlot (h : s.RequestsFormed) : s.decideSlot.RequestsFormed := by
  unfold State.decideSlot
  exact (h.onPlant (f := fun p => (Decision.make s.mode s.settings.preemptionWidth s.alloc p).plant)
    fun hf => hf.slotDecision _ _).updAlloc _

theorem slot (h : s.RequestsFormed) : s.slot.RequestsFormed := by
  unfold State.slot
  split
  case h_1 | h_2 => exact h.decideSlot
  all_goals exact h

/-! ## Doors -/

theorem opening (s : State) (tag g : Nat) : (s.opening tag g).RequestsFormed := by
  have hgrants : ((s.openDoor g).promptGrants g).decision.plant.Formed (s.openDoor g).ctl.mode :=
    foldl_keeps (P := fun r : PromptGrants => r.decision.plant.Formed (s.openDoor g).ctl.mode) _
      (fun r c _ hr => hr.offer c) _ (Plant.formed_reform _ _)
  exact ((State.requestsFormed_withPlant _ hgrants).updAlloc _).reply _ _ _ _

theorem closing (h : s.RequestsFormed) (g : Nat) : (s.closing g).RequestsFormed :=
  (((h.updDoors _).updZones _).updAlloc _).onPlant fun _ => Plant.formed_reform _ _

theorem door (h : s.RequestsFormed) (tag g state : Nat) : (s.door tag g state).RequestsFormed := by
  unfold State.door
  split
  · exact h.reply _ _ _ _
  · split
    · split
      · exact h.reply _ _ _ _
      · exact opening s tag g
    · split
      · exact (h.closing g).reply _ _ _ _
      · exact h.reply _ _ _ _

end State.RequestsFormed

end Sys2Proof.Machine
end

section
/-! SUPPORT. The requests of R31 and R32 at every step: the taking of each request, the link's events, start-up, the passing of
time. -/

namespace Sys2Proof.Machine

namespace State.RequestsFormed

variable {s : State}

/-! ## The taking of each request -/

/-- A removal in STANDBY: carried out on a defined record, refused on any other. -/
theorem removal (h : s.RequestsFormed) (kind tag : Nat) (checks : List (Nat × Bool)) {defined : State → Bool}
    {act : State → State} (hact : s.ctl.mode = .standby → (act s).RequestsFormed) :
    (s.configure kind tag checks fun s =>
      if defined s then (act s).done kind tag else s.noSuchItem kind tag).RequestsFormed := by
  refine h.configure _ _ _ fun hm => ?_
  split
  · exact (hact hm).reply _ _ _ _
  · exact h.reply _ _ _ _

theorem takePartSettings (h : s.RequestsFormed) (tag : Nat) (b : SettingsBody) : (takePartSettings tag b s).RequestsFormed := by
  have hdue (u : State) (hu : u.RequestsFormed) : (u.onPlant (fun p => Plant.reformAfter u.mode p
      ((p.atInterval u.settings.exerciseInterval 0).atInterval u.settings.exerciseInterval 1))).RequestsFormed :=
    hu.onPlant fun hf => hf.atIntervals _
  refine h.configure _ _ _ fun _ => (hdue _ ?_).reply _ _ _ _
  split
  · exact (h.setSettings _).applySafe
  · exact h.setSettings _

theorem takeChannelDef (h : s.RequestsFormed) (tag : Nat) (b : ChannelBody) : (takeChannelDef tag b s).RequestsFormed :=
  h.configure _ _ _ fun hm =>
    (h.onPlant fun hf => hf.redefined (by simp [hm]) _ (channelRedefined_unrequested _ _ _ _)).reply _ _ _ _

theorem takeChannelDefRemove (h : s.RequestsFormed) (tag channel : Nat) :
    (takeChannelDefRemove tag channel s).RequestsFormed :=
  h.removal _ _ _ fun hm => h.onPlant fun hf => hf.redefined (by simp [hm]) _ ⟨rfl, rfl⟩

theorem commandZone (h : s.RequestsFormed) (tag zone : Nat) (setpoint : Int) (mode : Nat) :
    (s.commandZone tag zone setpoint mode).RequestsFormed := by
  refine h.onItem _ _ _ _ ?_
  split
  · exact h.reply _ _ _ _
  · exact (h.putZone _ _).reply _ _ _ _

theorem takeZoneSetpoint (h : s.RequestsFormed) (tag zone : Nat) (setpoint : Int) (mode : Nat) :
    (takeZoneSetpoint tag zone setpoint mode s).RequestsFormed := by
  unfold Sys2Proof.Machine.takeZoneSetpoint
  split
  case h_4 => exact h.reply _ _ _ _
  all_goals exact h.commandZone _ _ _ _

theorem afterSupply (h : s.RequestsFormed) : s.afterSupply.RequestsFormed := by
  unfold State.afterSupply
  split
  case h_1 => exact (h.updAlloc _).forcedRelease
  all_goals exact h

theorem takeSupply (h : s.RequestsFormed) (tag ceiling threshold : Nat) :
    (takeSupply tag ceiling threshold s).RequestsFormed :=
  (((h.updAlloc _).updCtl (f := fun m => { m with supplyStale := false }) Iff.rfl).afterSupply).reply _ _ _ _

theorem takeDoor (h : s.RequestsFormed) (tag group state : Nat) : (takeDoor tag group state s).RequestsFormed := by
  unfold Sys2Proof.Machine.takeDoor
  split
  · exact h.door _ _ _
  · exact h.reply _ _ _ _

theorem takeClearFault (h : s.RequestsFormed) (tag channel : Nat) : (takeClearFault tag channel s).RequestsFormed := by
  unfold Sys2Proof.Machine.takeClearFault
  split
  · refine h.onItem _ _ _ _ (reply (h.onPlant fun hf => ?_) _ _ _ _)
    exact hf.setCh channel ⟨rfl, rfl, rfl, rfl, rfl, rfl, rfl⟩ rfl
  · exact h.reply _ _ _ _

theorem takeSweepNow (h : s.RequestsFormed) (tag : Nat) : (takeSweepNow tag s).RequestsFormed := by
  unfold Sys2Proof.Machine.takeSweepNow
  split
  · split
    · exact h.reply _ _ _ _
    · exact h.startSweep _ _
  · exact h.reply _ _ _ _

theorem takeStart (h : s.RequestsFormed) (tag : Nat) : (takeStart tag s).RequestsFormed := by
  unfold Sys2Proof.Machine.takeStart State.startStandby
  split
  · split <;> exact h.tryRun.reply _ _ _ _
  all_goals exact h.reply _ _ _ _

theorem takeStop (h : s.RequestsFormed) (tag : Nat) : (takeStop tag s).RequestsFormed := by
  unfold Sys2Proof.Machine.takeStop State.stopRun
  split
  case h_1 | h_4 => exact (windDownEntry s).windDownCheck.reply _ _ _ _
  all_goals exact h.reply _ _ _ _

theorem takeSave (h : s.RequestsFormed) (tag : Nat) : (takeSave tag s).RequestsFormed := by
  unfold Sys2Proof.Machine.takeSave
  split
  case h_3 => exact h.reply _ _ _ _
  all_goals exact h.updStore _

theorem takeReadConfig (h : s.RequestsFormed) (tag kind index : Nat) : (takeReadConfig tag kind index s).RequestsFormed := by
  unfold Sys2Proof.Machine.takeReadConfig
  split <;> exact h.reply _ _ _ _

theorem takeRotaRead (h : s.RequestsFormed) (tag first count : Nat) : (takeRotaRead tag first count s).RequestsFormed := by
  unfold Sys2Proof.Machine.takeRotaRead
  split <;> exact h.reply _ _ _ _

/-- Whatever request is taken, its owner leaves the requests formed. -/
theorem ownerAct (h : s.RequestsFormed) (i : Instr) : (ownerAct i s).RequestsFormed := by
  cases i with
  | partSettings tag body => exact h.takePartSettings tag body
  | zoneDef => exact h.configure _ _ _ fun _ => (h.putZone _ _).reply _ _ _ _
  | zoneDefRemove => exact h.removal _ _ _ fun _ => h.setZone _ _
  | channelDef tag body => exact h.takeChannelDef tag body
  | channelDefRemove tag channel => exact h.takeChannelDefRemove tag channel
  | groupDef | rotaLoad | promptDef => exact h.configure _ _ _ fun _ => (h.updAlloc _).reply _ _ _ _
  | promptDefRemove => exact h.removal _ _ _ fun _ => h.updAlloc _
  | stationDef => exact h.configure _ _ _ fun _ => ((h.setStation _ _).updLine _).reply _ _ _ _
  | stationDefRemove => exact h.removal _ _ _ fun _ => (h.setStation _ _).updLine _
  | inputDef => exact h.configure _ _ _ fun _ => (h.updSel _).reply _ _ _ _
  | inputDefRemove => exact h.removal _ _ _ fun _ => h.updSel _
  | poolDef => exact h.configure _ _ _ fun _ => ((h.updSel _).notifyAll _).reply _ _ _ _
  | zoneSetpoint tag zone setpoint mode => exact h.takeZoneSetpoint tag zone setpoint mode
  | supply tag ceiling threshold => exact h.takeSupply tag ceiling threshold
  | door tag group state => exact h.takeDoor tag group state
  | clearFault tag channel => exact h.takeClearFault tag channel
  | sweepNow tag => exact h.takeSweepNow tag
  | start tag => exact h.takeStart tag
  | stop tag => exact h.takeStop tag
  | save tag => exact h.takeSave tag
  | status => exact ((h.reply _ _ _ _).updCtl (f := fun m => { m with fallbackFlag := false }) Iff.rfl).updLink _
  | zoneReport | channelReport | groupReport | inputReport | stationReport => exact h.onItem _ _ _ _ (h.reply _ _ _ _)
  | readConfig tag kind index => exact h.takeReadConfig tag kind index
  | rotaRead tag first count => exact h.takeRotaRead tag first count
  | restart | allocReport | unknownKind => exact h.reply _ _ _ _
  | _ => exact h

/-! ## The coach link -/

theorem takeHead (h : s.RequestsFormed) : s.takeHead.RequestsFormed := by
  unfold State.takeHead
  split
  · exact h
  · unfold State.takeReading
    split
    case h_3 => exact (h.endFallback _).ownerAct _
    all_goals exact (h.endFallback _).reply _ _ _ _

theorem frameHeard (h : s.RequestsFormed) : s.frameHeard.RequestsFormed := by
  unfold State.frameHeard
  split
  case h_1 => exact h.updLink _
  case h_2 hm => exact h.leaveFallback hm _
  all_goals exact h

theorem enqueue (h : s.RequestsFormed) (f : Frame) : (s.enqueue f).RequestsFormed := by
  unfold State.enqueue
  split
  · exact (h.updLink _).takeHead
  · split <;> exact h.updLink _

theorem frameEnd (h : s.RequestsFormed) (kind tag : Byte) (body : List Byte) (check : BitVec 16) :
    (s.frameEnd kind tag body check).RequestsFormed := by
  unfold State.frameEnd
  split
  · exact h.updLink _
  · split
    · exact (h.updLink _).frameHeard.enqueue _
    · exact h.updLink _

theorem lengthImpossible (h : s.RequestsFormed) (length : Nat) : (s.lengthImpossible length).RequestsFormed := by
  unfold State.lengthImpossible
  split
  · exact h.updLink _
  · exact h

/-- Outside operation nothing is said of the requests. -/
theorem of_phase_ne (hp : s.phase ≠ .operating) : s.RequestsFormed := fun h => absurd h hp

/-- A reply sent lets the next request be taken, or, after a RESTART's, the part leave operation. -/
theorem replyEnd (h : s.RequestsFormed) : s.replyEnd.RequestsFormed := by
  unfold State.replyEnd
  split
  case h_1 =>
    unfold State.replyGone
    simp only
    split
    · exact of_phase_ne (by simp [State.restartShutdown])
    · exact ((h.updLink _).pump.updLink _).takeHead
  all_goals exact h

theorem noticeEnd (h : s.RequestsFormed) : s.noticeEnd.RequestsFormed := by
  unfold State.noticeEnd
  split
  case h_1 => exact h.updLink _
  all_goals exact h

/-! ## Start-up -/

/-- In STANDBY at the end of start-up no channel is drawn or requests (R53, R176). -/
theorem formed (s : State) (kind : StartKind) (x : StoredConfig) (configLoad counterLoad : LoadStatus) (latched : Nat → Bool)
    (records : Table ExerciseRecord 2) (checkpointTime : Nat) :
    (s.formed kind x configLoad counterLoad latched records checkpointTime).RequestsFormed :=
  State.requestsFormed_iff.2 fun _ =>
    (Plant.formed_iff_of_forbidden (by simp [State.formed])).2 (channelsFrom_unrequested x latched s.sensePins)

theorem autoStart (h : s.RequestsFormed) : s.autoStart.RequestsFormed := by
  unfold State.autoStart
  split
  · exact h.tryRun
  · exact h

theorem powerUp (s : State) : s.powerUp.RequestsFormed := (formed s _ _ _ _ _ _ _).autoStart

theorem reinitialise (s : State) : s.reinitialise.RequestsFormed := (formed s _ _ _ _ _ _ _).autoStart

/-! ## The settings store -/

theorem drawUnless (h : s.RequestsFormed) (matched : Bool) : (s.drawUnless matched).RequestsFormed := by
  unfold State.drawUnless
  split
  · exact h
  · exact h.setFreeCount _

theorem endConfigurationWrite (h : s.RequestsFormed) (matched : Bool) : (s.endConfigurationWrite matched).RequestsFormed := by
  unfold State.endConfigurationWrite
  split
  · exact ((h.updStore _).drawUnless _).notifyAll _
  · exact h

theorem endCounterWrite (h : s.RequestsFormed) (matched : Bool) : (s.endCounterWrite matched).RequestsFormed := by
  unfold State.endCounterWrite
  split
  · exact (((h.updStore _).drawUnless _).notifyAll _).reply _ _ _ _
  · exact h

theorem endCheckpointWrite (h : s.RequestsFormed) (matched : Bool) : (s.endCheckpointWrite matched).RequestsFormed := by
  unfold State.endCheckpointWrite
  split
  case h_1 => exact ((h.updStore _).drawUnless _).notifyAll _
  all_goals exact h

/-! ## The passing of time -/

theorem tickChannels (h : s.RequestsFormed) : s.tickChannels.RequestsFormed := by
  have htick : ∀ c, s.tickChannels.plant.ch c = (s.plant.ch c).tick := fun c => by
    by_cases hc : c < 32
    · exact Table.get_map _ _ _ _ hc
    · have hout (p : Plant) : p.ch c = {} := Table.get_of_le _ _ (by omega)
      rw [hout, hout]
      rfl
  refine State.requestsFormed_iff.2 fun hp =>
    (State.requestsFormed_iff.1 h hp).congr (fun c => ?_) (fun c => ?_) Iff.rfl
  · rw [htick]; exact ⟨rfl, rfl, rfl, rfl, rfl, rfl, rfl⟩
  · rw [htick]; rfl

theorem tick (h : s.RequestsFormed) : s.tick.RequestsFormed := by
  unfold State.tick
  split
  · have hctl : s.ctl.tick.mode = s.ctl.mode := by unfold ModeCtl.tick; split <;> rfl
    unfold State.elapsed
    have hmode := h.tickChannels.updCtl (f := ModeCtl.tick) (by rw [State.tickChannels, State.updChan_ctl, hctl])
    exact (((((hmode.updZones _).updDoors _).updAlloc _).updLine _).updLink _).pump
  · exact h.updChan rfl
  · exact h

/-- What leaves the requests formed leaves them formed as a step's next state. -/
theorem next {t u : State} (h : u.RequestsFormed) (ht : (.next u : Host.Outcome State Fault Refusal) = .next t) :
    t.RequestsFormed := by
  cases ht
  exact h

end State.RequestsFormed

/-! ## A step -/

open State.RequestsFormed (reinitialise powerUp of_phase_ne next) in
/-- Every command leaves the requests formed. -/
theorem requestsFormed_of_exec {s t : State} (h : s.RequestsFormed) {i : Instr} (ht : exec i s = .next t) :
    t.RequestsFormed := by
  have request (hi : exec i s = .next (s.submit i (ownerAct i))) : t.RequestsFormed :=
    (h.submit i fun u hu => hu.ownerAct i).next (hi ▸ ht)
  have event (f : State → State) (hi : exec i s = .next (s.event f)) (hf : s.RequestsFormed → (f s).RequestsFormed) :
      t.RequestsFormed := (h.event hf).next (hi ▸ ht)
  cases i with
  | frameLengthImpossible length => exact event _ rfl fun h => h.lengthImpossible length
  | frameAbandoned => exact event _ rfl fun h => h.updLink _
  | frameComplete kind tag body check => exact event _ rfl fun h => h.frameEnd kind tag body check
  | replySent => exact event _ rfl fun h => h.replyEnd
  | noticeSent => exact event _ rfl fun h => h.noticeEnd
  | restartReinitialisation =>
    change execRestartReinitialisation s = .next t at ht
    unfold execRestartReinitialisation at ht
    split at ht
    case h_1 => exact (reinitialise s).pump.next ht
    all_goals exact h.next ht
  | powerOn => exact (powerUp s.supplyLost).pump.next ht
  | undervoltage => exact next (of_phase_ne (by simp [State.supplyLost])) ht
  | sweepTimerExpiry => exact event _ rfl fun h => h.sweepDue
  | pollReplyWindowExpiry | pollReplyGapExpiry | pollReplyEnd => exact event _ rfl fun h => h.atPoll _
  | selectorSweepCompletion => exact event _ rfl fun h => h.atSelector
  | zoneSweepCompletion => exact event _ rfl fun h => h.atZones
  | ambientSweepCompletion => exact event _ rfl fun h => h.atAmbient
  | zoneDemandUpdate => exact event _ rfl fun h => h.demandUpdate
  | holdTimerExpiry => exact event _ rfl fun h => h.setZone _ _
  | doorLimitTimerExpiry group => exact event _ rfl fun h => h.doorLimit group
  | runOnTimerExpiry entry => exact event _ rfl fun h => h.runOnEnd entry
  | ambientHoldTimerExpiry => exact event _ rfl fun h => h.ambientHoldEnd
  | startTimerExpiry channel => exact event _ rfl fun h => h.onPlant fun hf => hf.startEnd channel
  | minimumOnExpiry channel => exact event _ rfl fun h => h.onPlant fun hf => hf.minimumOnEnd channel
  | afterRunExpiry channel =>
    exact event _ rfl fun h => (h.onPlant fun hf => hf.afterRunEnd channel).lastChannelCheck
  | minimumOffExpiry channel => exact event _ rfl fun h => h.onPlant fun hf => hf.minimumOffEnd channel
  | faultBackoffExpiry channel => exact event _ rfl fun h => h.onPlant fun hf => hf.backoffEnd channel
  | cleanRunExpiry channel => exact event _ rfl fun h => h.onPlant fun hf => hf.cleanRunEnd channel
  | faultSenseReport channel asserted =>
    refine next ((h.setSensePins (s.sensePins.set channel asserted)).event fun h => ?_) ht
    exact (h.onPlant fun hf => hf.senseChange channel asserted).lastChannelCheck
  | slotDecision => exact event _ rfl fun h => h.slot
  | supplyStalenessExpiry => exact event _ rfl fun h => h.staleness
  | linkSilenceExpiry => exact event _ rfl fun h => h.silence
  | exerciseHour record => exact event _ rfl fun h => h.exerciseHourEnd record
  | exerciseRetryExpiry record => exact event _ rfl fun h => h.onPlant fun hf => hf.retryEnd record
  | exerciseSatisfied record => exact event _ rfl fun h => h.onPlant fun hf => hf.satisfy _ record
  | checkpoint => exact event _ rfl fun h => h.checkpointEnd
  | configurationWriteEnd matched => exact event _ rfl fun h => h.endConfigurationWrite matched
  | counterWriteEnd matched => exact event _ rfl fun h => h.endCounterWrite matched
  | checkpointWriteEnd matched => exact event _ rfl fun h => h.endCheckpointWrite matched
  | _ => exact request rfl

/-- Settles O10: a step is a millisecond or the front command, and each leaves the requests formed. -/
theorem combinedRequestsStandFormed : Obligations.CombinedRequestsStandFormed := by
  unfold Obligations.CombinedRequestsStandFormed
  intro s t h ht
  unfold step at ht
  split at ht
  · exact h.tick.next ht
  · exact requestsFormed_of_exec (h.setPending _) ht

end Sys2Proof.Machine
end

section
/-! SUPPORT. SUPPLY (R59, R60): the answer that a reply formed at the taking gives, what an event of the channel tables leaves
unchanged, and what follows the new values in each part mode. -/

namespace Sys2Proof.Machine

/-! ## The notices of an event and the answer to a request -/

/-- Notices queued one after another leave the request queue and the transmitter as they were. -/
theorem LinkPort.queueNotices_keeps (l : LinkPort) (ns : List Notice) :
    (l.queueNotices ns).requests = l.requests ∧ (l.queueNotices ns).tx = l.tx := by
  induction ns generalizing l with
  | nil => exact ⟨rfl, rfl⟩
  | cons n ns ih =>
    obtain ⟨hrequests, htx⟩ := ih (l.queueNotice n)
    have hone : (l.queueNotice n).requests = l.requests ∧ (l.queueNotice n).tx = l.tx := by
      unfold LinkPort.queueNotice
      split <;> exact ⟨rfl, rfl⟩
    exact ⟨hrequests.trans hone.1, htx.trans hone.2⟩

@[simp] theorem LinkPort.queueNotices_requests (l : LinkPort) (ns : List Notice) :
    (l.queueNotices ns).requests = l.requests := (l.queueNotices_keeps ns).1

@[simp] theorem LinkPort.queueNotices_tx (l : LinkPort) (ns : List Notice) : (l.queueNotices ns).tx = l.tx :=
  (l.queueNotices_keeps ns).2

theorem State.pump_link {s : State} (h : s.phase = .operating) : s.pump.link = s.link.pump := by
  simp only [State.pump, h, State.updLink_link]

/-- A ready reply goes at once to a free transmitter. -/
theorem LinkPort.pump_of_ready {l : LinkPort} {r : Reply} (htx : l.tx = .idle) (hr : l.ready = some r) :
    l.pump = { l with ready := none, tx := .reply r } := by
  simp only [LinkPort.pump, htx, hr]

/-- A reply formed while the request stands at the head and the transmitter is as it was at the taking answers that request. -/
theorem State.answers_reply {t v : State} {i : Instr} {kind tag : Nat} (hk : (frameOf i).kind = kind)
    (ht : (frameOf i).tag = tag) (hp : v.phase = .operating) (hq : v.link.requests = [frameOf i])
    (htx : v.link.tx = t.link.tx) (code : ResultCode) (content : Content) :
    Answers t (v.reply kind tag code content).pump i code content := by
  subst hk ht
  have hlink := State.pump_link (s := v.reply (frameOf i).kind (frameOf i).tag code content) hp
  obtain ⟨hrequests, -, -, -, -, -, -, hbusy⟩ :=
    LinkPort.pump_spec (v.reply (frameOf i).kind (frameOf i).tag code content).link
  unfold Answers
  rw [hlink]
  refine ⟨hrequests.trans hq, fun hidle => ?free, fun hnot => ?busy⟩
  case free =>
    rw [LinkPort.pump_of_ready (l := (v.reply _ _ code content).link) (htx.trans hidle) rfl]
    exact ⟨rfl, rfl⟩
  case busy =>
    rw [hbusy (htx ▸ hnot)]
    exact ⟨htx, rfl⟩

/-! ## An event of the channel tables

It reaches those tables and, by its notices, the link port alone. -/

@[simp] theorem State.onPlant_phase (s : State) (f : Plant → Plant) : (s.onPlant f).phase = s.phase := rfl
@[simp] theorem State.onPlant_ctl (s : State) (f : Plant → Plant) : (s.onPlant f).ctl = s.ctl := rfl
@[simp] theorem State.onPlant_settings (s : State) (f : Plant → Plant) : (s.onPlant f).settings = s.settings := rfl
@[simp] theorem State.onPlant_zones (s : State) (f : Plant → Plant) : (s.onPlant f).zones = s.zones := rfl
@[simp] theorem State.onPlant_doors (s : State) (f : Plant → Plant) : (s.onPlant f).doors = s.doors := rfl
@[simp] theorem State.onPlant_alloc (s : State) (f : Plant → Plant) : (s.onPlant f).alloc = s.alloc := rfl
@[simp] theorem State.onPlant_line (s : State) (f : Plant → Plant) : (s.onPlant f).line = s.line := rfl
@[simp] theorem State.onPlant_sel (s : State) (f : Plant → Plant) : (s.onPlant f).sel = s.sel := rfl
@[simp] theorem State.onPlant_store (s : State) (f : Plant → Plant) : (s.onPlant f).store = s.store := rfl

@[simp] theorem State.onPlant_requests (s : State) (f : Plant → Plant) : (s.onPlant f).link.requests = s.link.requests :=
  LinkPort.queueNotices_requests _ _

@[simp] theorem State.onPlant_tx (s : State) (f : Plant → Plant) : (s.onPlant f).link.tx = s.link.tx :=
  LinkPort.queueNotices_tx _ _

/-! ## The steps of a SUPPLY -/

/-- SUPPLY is taken at once, in every mode: the values, what follows them, and the reply. -/
theorem exec_supply {s : State} (h : s.Ready) (tag ceiling threshold : Nat) :
    exec (.supply tag ceiling threshold) s =
      .next (takeSupply tag ceiling threshold (s.atTaking.heading (.supply tag ceiling threshold))).pump :=
  congrArg _ (State.submit_ready h _ _)

/-- Outside RUN nothing follows the new values. -/
theorem State.setSupply_afterSupply_of_ne_run {s : State} (h : s.ctl.mode ≠ .run) (ceiling threshold : Nat) :
    (s.setSupply ceiling threshold).afterSupply = s.setSupply ceiling threshold := by
  unfold State.afterSupply
  split
  case h_1 hrun => exact absurd hrun h
  all_goals rfl

/-- In RUN the staleness timer restarts and the forced release follows (R60). -/
theorem State.setSupply_afterSupply_of_run {s : State} (h : s.ctl.mode = .run) (ceiling threshold : Nat) :
    (s.setSupply ceiling threshold).afterSupply =
      ((s.setSupply ceiling threshold).updAlloc (fun a => { a with stalenessTimer := some stalenessTime })).forcedRelease := by
  have hmode : (s.setSupply ceiling threshold).mode = .run := h
  simp only [State.afterSupply, hmode]

/-- Settles O28: outside RUN the reply follows the new values at once; in RUN the forced release stands between them, and it
leaves the values, the request at the head and the transmitter as they were. -/
theorem supplySetsTheValuesInForce : Obligations.SupplySetsTheValuesInForce := by
  unfold Obligations.SupplySetsTheValuesInForce
  intro tag ceiling threshold s h i t code content forced
  have hexec : exec i s = .next (takeSupply tag ceiling threshold (t.heading i)).pump := exec_supply h tag ceiling threshold
  refine ⟨fun hmode => ?other, fun hmode => ?run⟩
  case other =>
    have hvalues : (t.heading i).setSupply ceiling threshold = forced.heading i := by
      simp only [forced, if_neg hmode]
      rfl
    rw [hexec, takeSupply, State.setSupply_afterSupply_of_ne_run (s := t.heading i) hmode, hvalues]
    exact congrArg _ (State.heading_reply forced i rfl rfl code content)
  case run =>
    have hvalues : ((t.heading i).setSupply ceiling threshold).updAlloc
        (fun a => { a with stalenessTimer := some stalenessTime }) = forced.heading i := by
      simp only [forced, if_pos hmode]
      rfl
    refine ⟨_, hexec, ?_⟩
    rw [takeSupply, State.setSupply_afterSupply_of_run (s := t.heading i) hmode, hvalues, State.forcedRelease]
    refine ⟨State.answers_reply (v := (forced.heading i).onPlant _) (kind := 0x11) (tag := tag) rfl rfl ?phase
      (State.onPlant_requests _ _) (State.onPlant_tx _ _) code content, ?blocks⟩
    case phase => exact (State.onPlant_phase _ _).trans ((State.phase_atTaking s).trans h.phase)
    case blocks =>
      simp only [State.pump_ctl, State.pump_alloc, State.pump_zones, State.pump_doors, State.pump_line, State.pump_sel,
        State.pump_store, State.pump_settings, State.reply_ctl, State.reply_alloc, State.reply_zones, State.reply_doors,
        State.reply_line, State.reply_sel, State.reply_store, State.reply_settings, State.onPlant_ctl, State.onPlant_alloc,
        State.onPlant_zones, State.onPlant_doors, State.onPlant_line, State.onPlant_sel, State.onPlant_store,
        State.onPlant_settings]
      exact ⟨rfl, rfl, rfl, rfl, rfl, rfl, rfl, rfl⟩

end Sys2Proof.Machine
end

section
/-! SUPPORT. GROUP-DEF (R88): a configuration request at the head of the queue, the order of the definition's field checks, and
the record it writes. -/

namespace Sys2Proof.Machine

/-- A configuration request taken (R185): outside STANDBY it is refused, else its first failing field is named, else it is
carried out. -/
theorem State.heading_configure (t : State) (i : Instr) {kind tag : Nat} (hk : (frameOf i).kind = kind)
    (ht : (frameOf i).tag = tag) (checks : List (Nat × Bool)) (act : State → State) :
    ((t.heading i).configure kind tag checks act).pump =
      if t.ctl.mode ≠ .standby then t.refusesMode i
      else (firstBad checks).elim (act (t.heading i)).pump fun f => t.answered i .badField (.field f) := by
  rw [State.configure_eq]
  by_cases hmode : t.ctl.mode ≠ .standby
  · rw [if_pos hmode, if_pos (show (t.heading i).ctl.mode ≠ .standby from hmode)]
    exact State.heading_reply t i hk ht _ _
  · rw [if_neg hmode, if_neg (show ¬ (t.heading i).ctl.mode ≠ .standby from hmode)]
    cases firstBad checks with
    | none => rfl
    | some f => exact State.heading_reply t i hk ht _ _

/-- The field that a GROUP-DEF's checks name first, in the order of R88. -/
theorem firstBad_groupChecks (group peak divisor burst : Nat) :
    firstBad (groupChecks group peak divisor burst) =
      if 7 < group then some 1
      else if 4000 < peak then some 2
      else if divisor < 1 ∨ 16 < divisor then some 3
      else if burst < 4 ∨ 256 < burst ∨ burst % 4 ≠ 0 then some 4
      else none := by
  have hgroup : within 0 7 group = !decide (7 < group) := by grind [within]
  have hpeak : within 0 4000 peak = !decide (4000 < peak) := by grind [within]
  have hdivisor : within 1 16 divisor = !decide (divisor < 1 ∨ 16 < divisor) := by grind [within]
  have hburst : (within 4 256 burst && decide (burst % 4 = 0)) =
      !decide (burst < 4 ∨ 256 < burst ∨ burst % 4 ≠ 0) := by grind [within]
  simp only [groupChecks, firstBad, hgroup, hpeak, hdivisor, hburst, Bool.not_eq_true', decide_eq_false_iff_not, ite_not]

/-- A GROUP-DEF whose fields pass writes the fresh record and is answered DONE. -/
theorem State.heading_groupDef (t : State) (tag group peak divisor burst : Nat) :
    (((t.heading (.groupDef tag group peak divisor burst)).updAlloc fun a =>
        { a with groups := a.groups.set group (groupFresh ⟨peak, divisor, burst⟩) }).done 0x04 tag).pump =
      (t.withGroup group (groupFresh ⟨peak, divisor, burst⟩)).answered (.groupDef tag group peak divisor burst) .done .nothing :=
  State.heading_reply (t.withGroup group (groupFresh ⟨peak, divisor, burst⟩)) _ rfl rfl _ _

/-- GROUP-DEF is taken at once, as every configuration request at an empty queue. -/
theorem exec_groupDef {s : State} (h : s.Ready) (tag group peak divisor burst : Nat) :
    exec (.groupDef tag group peak divisor burst) s =
      .next (takeGroupDef tag group peak divisor burst (s.atTaking.heading (.groupDef tag group peak divisor burst))).pump :=
  congrArg _ (State.submit_ready h _ _)

/-- Settles O22: the taking of a configuration request, split along the definition's checks. -/
theorem groupDefReplacesTheGroup : Obligations.GroupDefReplacesTheGroup := by
  unfold Obligations.GroupDefReplacesTheGroup
  intro tag group peak divisor burst s h i t d
  refine ⟨rfl, rfl, ?_⟩
  rw [exec_groupDef h, takeGroupDef, State.heading_configure (kind := 0x04) (tag := tag) s.atTaking _ rfl rfl,
    firstBad_groupChecks, State.heading_groupDef]
  refine congrArg Host.Outcome.next (if_congr Iff.rfl rfl ?checked)
  case checked =>
    split_ifs <;> rfl

end Sys2Proof.Machine
end

section
/-! SUPPORT. POOL-DEF (R138): notices queued behind a request at the head, the order of the definition's field checks, and the
pool and the inputs it writes. -/

namespace Sys2Proof.Machine

/-! ## Notices queued while a request stands at the head -/

/-- Notices that join the queue one by one. -/
theorem State.foldl_withNotice (s : State) (ns : List Notice) : ns.foldl State.withNotice s = s.notifyAll ns := by
  induction ns generalizing s with
  | nil => rfl
  | cons n ns ih => exact ih (s.withNotice n)

/-- What is queued as notices does not depend on the requests that wait. -/
theorem LinkPort.queueNotices_with_requests (l : LinkPort) (requests : List Frame) (ns : List Notice) :
    ({ l with requests := requests } : LinkPort).queueNotices ns = { l.queueNotices ns with requests := requests } := by
  induction ns generalizing l with
  | nil => rfl
  | cons n ns ih =>
    have hone : ({ l with requests := requests } : LinkPort).queueNotice n =
        { l.queueNotice n with requests := requests } := by
      unfold LinkPort.queueNotice
      split <;> rfl
    simp only [LinkPort.queueNotices, hone, ih]

theorem State.heading_notifyAll (t : State) (i : Instr) (ns : List Notice) :
    (t.heading i).notifyAll ns = (t.notifyAll ns).heading i :=
  congrArg (fun l => ({ t with link := l } : State)) (LinkPort.queueNotices_with_requests t.link [frameOf i] ns)

/-! ## The definition's checks -/

theorem pointInRange_eq (station number : Nat) :
    pointInRange station number = (within 0 15 station && within 1 6 number) := by
  simp [pointInRange, within]

/-- The field that a POOL-DEF's checks name first: the count of the points, then the points. -/
theorem firstBad_poolChecks (points : List PointBody) :
    firstBad (poolChecks points) =
      if 4 < points.length then some 1
      else if points.all (fun p => within 0 15 p.station && within 1 6 p.number) = false then some 2
      else none := by
  have hcount : within 0 4 points.length = !decide (4 < points.length) := by grind [within]
  simp only [poolChecks, firstBad, hcount, pointInRange_eq, Bool.not_eq_true', decide_eq_false_iff_not, ite_not]
  cases points.all fun p => within 0 15 p.station && within 1 6 p.number <;> rfl

/-! ## The pool and the inputs -/

/-- The notices of a POOL-DEF, looked for among every number below 14: 0 names no input and is on no pool point. -/
theorem State.poolNotices_eq (s : State) :
    s.sel.poolNotices =
      ((List.range 14).filter fun k => (s.input k).onPool).map fun k => .inputInvalid k (s.input k).value := by
  have hrange : List.range 14 = 0 :: inputNumbers := by decide
  have hzero : (s.input 0).onPool = false := rfl
  rw [hrange, List.filter_cons, hzero]
  rfl

/-- The free list of a pool written from a request's body counts that body's points. -/
theorem Selector.poolDefined_ofBody (points : List PointBody) (x : Selector) :
    x.poolDefined (points.map PointRef.ofBody) =
      { x with
        pool := points.map PointRef.ofBody, freeList := List.range points.length
        inputs := x.inputs.map LogicalInput.atPoolDef } := by
  rw [Selector.poolDefined, List.length_map]

/-- A POOL-DEF whose fields pass writes the selector, queues the notices of the inputs it makes INVALID, and is answered DONE. -/
theorem State.heading_poolDef (t : State) (tag : Nat) (points : List PointBody) :
    ((((t.heading (.poolDef tag points)).updSel (Selector.poolDefined (points.map PointRef.ofBody))).notifyAll
        (t.heading (.poolDef tag points)).sel.poolNotices).done 0x09 tag).pump =
      (({ t with sel := { t.sel with
            pool := points.map PointRef.ofBody, freeList := List.range points.length
            inputs := t.sel.inputs.map LogicalInput.atPoolDef } } : State).notifyAll t.sel.poolNotices).answered
        (.poolDef tag points) .done .nothing := by
  have hheading : (t.heading (.poolDef tag points)).updSel (Selector.poolDefined (points.map PointRef.ofBody)) =
      ({ t with sel := t.sel.poolDefined (points.map PointRef.ofBody) } : State).heading (.poolDef tag points) := rfl
  rw [hheading, State.heading_notifyAll, Selector.poolDefined_ofBody]
  exact State.heading_reply _ _ rfl rfl _ _

/-- POOL-DEF is taken at once, as every configuration request at an empty queue. -/
theorem exec_poolDef {s : State} (h : s.Ready) (tag : Nat) (points : List PointBody) :
    exec (.poolDef tag points) s =
      .next (takePoolDef tag points (s.atTaking.heading (.poolDef tag points))).pump :=
  congrArg _ (State.submit_ready h _ _)

/-- Settles O26: the taking of a configuration request, split along the definition's checks; past them the inputs on a pool point
are those the statement calls lent. -/
theorem poolDefReplacesThePool : Obligations.PoolDefReplacesThePool := by
  unfold Obligations.PoolDefReplacesThePool
  intro tag points s h i t lent notices
  have hlent : lent = LogicalInput.onPool := by
    funext x
    simp only [lent, LogicalInput.onPool]
    cases x.source <;> rfl
  have hnotices : notices = t.sel.poolNotices := by
    rw [State.poolNotices_eq, ← hlent]
  rw [exec_poolDef h, takePoolDef, State.heading_configure (kind := 0x09) (tag := tag) s.atTaking _ rfl rfl,
    firstBad_poolChecks, State.heading_poolDef, State.foldl_withNotice, hnotices, hlent]
  refine congrArg Host.Outcome.next (if_congr Iff.rfl rfl ?checked)
  case checked =>
    split_ifs <;> rfl

end Sys2Proof.Machine
end

section
/-! SUPPORT. A run of releases with their cascades (R44, R51, R162): every record is as it was, or released with its exercise
interrupted, and in a mode that forbids requests the forming that follows a release changes no further record. -/

namespace Sys2Proof.Machine

/-! ## One record -/

/-- A released channel is out of service. -/
theorem Channel.active_released (x : Channel) : x.released.active = false := by
  have hrest : (if 0 < x.defn.minOff then ChannelState.lockout else if x.combined then .waiting else .idle).inService = false := by
    split_ifs <;> rfl
  unfold Channel.released Channel.rest
  simp only
  split
  · exact Bool.and_false _
  · exact (congrArg _ hrest).trans (Bool.and_false _)

theorem Channel.exercise_released (x : Channel) : x.released.exercise = x.exercise := by
  unfold Channel.released Channel.rest
  simp only
  split <;> rfl

/-- Without a combined request a released channel does not wait for a grant (R44 step 5). -/
theorem Channel.state_released_ne_waiting {x : Channel} (h : x.combined = false) : x.released.state ≠ .waiting := by
  unfold Channel.released Channel.rest
  simp only [h, Bool.false_eq_true, if_false]
  split
  · exact ChannelState.noConfusion
  · split <;> exact ChannelState.noConfusion

/-- The release in the spec's terms (R44). -/
theorem Channel.released_eq_afterRelease (x : Channel) : x.released = x.afterRelease := by
  unfold Channel.released Channel.afterRelease
  simp only
  split
  · next h => simp only [timerOf, if_neg (Nat.ne_of_gt h)]; rfl
  · rfl

/-! ## An interruption -/

theorem Plant.interrupt_of_not_exercise {p : Plant} {c : Nat} (h : (p.ch c).exercise = false) (cause : PostponedCause) :
    p.interrupt cause c = p := by
  simp only [Plant.interrupt, h, Bool.false_eq_true, if_false]

/-- An interruption clears the exercise request of its channel and touches no other record, nor the grant order list (R162). -/
theorem Plant.interrupt_spec (p : Plant) (cause : PostponedCause) (c : Nat) :
    (∀ d, (p.interrupt cause c).ch d = if c = d then { p.ch d with exercise := false } else p.ch d) ∧
    (p.interrupt cause c).chan.grantOrder = p.chan.grantOrder := by
  by_cases h : (p.ch c).exercise = true
  · have hc : c < 32 := Plant.lt_of_ch (p := p) (fun e => by rw [e] at h; simp at h)
    simp only [Plant.interrupt, h, if_true]
    have hrecs := foldl_keeps (P := fun q : Plant => (∀ d, q.ch d = p.ch d) ∧ q.chan.grantOrder = p.chan.grantOrder)
      (f := fun q r => if (q.exRec r).bound = some c then
          (q.setRec r { q.exRec r with retry := some retryTime }).notice
            (.exercisePostponed c cause ((q.exRec r).runTime / 1000))
        else q) [0, 1] (fun q r _ hq => by split <;> exact hq) p ⟨fun _ => rfl, rfl⟩
    refine ⟨fun d => ?_, hrecs.2⟩
    rw [Plant.ch_setCh, hrecs.1]
    by_cases hd : c = d
    · rw [if_pos ⟨hd, hc⟩, if_pos hd, hd]
    · rw [if_neg (fun e => hd e.1), if_neg hd]
  · have hno : (p.ch c).exercise = false := Bool.eq_false_iff.2 h
    rw [Plant.interrupt_of_not_exercise hno]
    refine ⟨fun d => ?_, rfl⟩
    split
    · next hd => rw [← hd, ← hno]
    · rfl

/-! ## Releases alone -/

/-- From `p` to `q` nothing but releases: each record is as it was, or was STARTING or RUNNING and is released with no exercise
asked of it; what is left of the grant order list is untouched; and no notice is produced where no exercise is asked of a channel in
service. -/
structure Plant.OnlyReleases (p q : Plant) : Prop where
  ch : ∀ c, q.ch c = p.ch c ∨ ((p.ch c).active = true ∧ q.ch c = { (p.ch c).released with exercise := false })
  order : ∀ c ∈ q.chan.grantOrder, c ∈ p.chan.grantOrder ∧ q.ch c = p.ch c
  produced : (∀ c, (p.ch c).active = true → (p.ch c).exercise = false) → q.produced = p.produced

namespace Plant.OnlyReleases

variable {p q r : Plant}

/-- Tables that agree on the records, the grant order list and the notices. -/
theorem of_same (hch : ∀ c, q.ch c = p.ch c) (horder : q.chan.grantOrder = p.chan.grantOrder)
    (hproduced : q.produced = p.produced) : p.OnlyReleases q :=
  ⟨fun c => .inl (hch c), fun c hc => ⟨horder ▸ hc, hch c⟩, fun _ => hproduced⟩

theorem refl (p : Plant) : p.OnlyReleases p := of_same (fun _ => rfl) rfl rfl

/-- What is out of service stays as it is. -/
theorem ch_of_inactive (h : p.OnlyReleases q) {c : Nat} (hc : (p.ch c).active = false) : q.ch c = p.ch c :=
  (h.ch c).resolve_right fun ⟨ha, _⟩ => Bool.false_ne_true (hc.symm.trans ha)

/-- What is still in service is as it was. -/
theorem ch_of_active (h : p.OnlyReleases q) {c : Nat} (hc : (q.ch c).active = true) : q.ch c = p.ch c := by
  refine (h.ch c).resolve_right fun ⟨_, hq⟩ => ?_
  rw [hq] at hc
  exact Bool.false_ne_true ((Channel.active_released (p.ch c)).symm.trans hc)

theorem trans (h : p.OnlyReleases q) (k : q.OnlyReleases r) : p.OnlyReleases r := by
  refine ⟨fun c => ?_, fun c hc => ?_, fun hno => ?_⟩
  · rcases k.ch c with hr | ⟨ha, hr⟩
    · rw [hr]; exact h.ch c
    · have hsame := h.ch_of_active ha
      exact .inr ⟨hsame ▸ ha, hsame ▸ hr⟩
  · obtain ⟨hq, hr⟩ := k.order c hc
    obtain ⟨hp, hq⟩ := h.order c hq
    exact ⟨hp, hr.trans hq⟩
  · refine (k.produced fun c ha => ?_).trans (h.produced hno)
    have hsame := h.ch_of_active ha
    exact (congrArg Channel.exercise hsame).trans (hno c (hsame ▸ ha))

/-- A run of releases. -/
theorem foldl {f : Plant → Nat → Plant} (hf : ∀ (q : Plant) d, q.OnlyReleases (f q d)) (cs : List Nat) (p : Plant) :
    p.OnlyReleases (cs.foldl f p) :=
  foldl_keeps (P := p.OnlyReleases) cs (fun q d _ hq => hq.trans (hf q d)) p (.refl p)

/-- After a release of a channel in service its record stays as the release left it. -/
theorem ch_retired {c : Nat} (hc : (p.ch c).active = true) (h : (p.retire c).OnlyReleases q) : q.ch c = (p.ch c).released := by
  have hself : (p.retire c).ch c = (p.ch c).released :=
    Plant.ch_setCh_self p _ (Plant.lt_of_defined (Channel.defined_of_active hc))
  rw [h.ch_of_inactive (by rw [hself]; exact Channel.active_released _), hself]

/-- A release of a channel in service: its own record first, then releases alone, then the interruption of its exercise (R44, R51;
log 20). -/
theorem interrupted {c : Nat} (hc : (p.ch c).active = true) (h : (p.retire c).OnlyReleases q) :
    p.OnlyReleases (q.interrupt .release c) := by
  have hself : ((p.retire c).ch c).active = false :=
    (congrArg Channel.active ((refl (p.retire c)).ch_retired hc)).trans (Channel.active_released _)
  have hother : ∀ d, c ≠ d → (p.retire c).ch d = p.ch d := fun d hd => Plant.ch_setCh_ne p _ hd
  obtain ⟨hch, horder⟩ := q.interrupt_spec .release c
  refine ⟨fun d => ?_, fun d hd => ?_, fun hno => ?_⟩
  · rw [hch d]
    by_cases hd : c = d
    · subst hd
      rw [if_pos rfl, h.ch_retired hc]
      exact .inr ⟨hc, rfl⟩
    · rw [if_neg hd, ← hother d hd]
      exact h.ch d
  · rw [horder] at hd
    obtain ⟨hmem, hsame⟩ := h.order d hd
    obtain ⟨hmem, hne⟩ : d ∈ p.chan.grantOrder ∧ d ≠ c := by
      simpa [Plant.retire, Plant.leaveOrder, Plant.setCh] using hmem
    rw [hch d, if_neg hne.symm]
    exact ⟨hmem, hsame.trans (hother d hne.symm)⟩
  · have hidle : (q.ch c).exercise = false := by rw [h.ch_retired hc, Channel.exercise_released, hno c hc]
    rw [Plant.interrupt_of_not_exercise hidle]
    refine h.produced fun d ha => ?_
    by_cases hd : c = d
    · subst hd
      exact absurd (hself.symm.trans ha) Bool.false_ne_true
    · rw [hother d hd] at ha ⊢
      exact hno d ha

/-- The parts of a release with its cascade, where the releases it sets off are releases alone. -/
theorem exists_retired {k : Nat} (hk : ∀ (q : Plant) d, q.OnlyReleases (q.releaseTree k d)) {c : Nat}
    (hc : (p.ch c).active = true) :
    ∃ q, (p.retire c).OnlyReleases q ∧ p.releaseTree (k + 1) c = q.interrupt .release c := by
  rw [Plant.releaseTree_succ, if_pos hc]
  refine ⟨_, ?_, rfl⟩
  split
  · have htimer : (p.retire c).OnlyReleases ((p.retire c).stopRunTimer c) := of_same (fun _ => rfl) rfl rfl
    exact htimer.trans (foldl hk _ _)
  · exact .refl _

/-- A release with its cascade, whatever the fuel (R44, R51). -/
theorem releaseTree (k c : Nat) (p : Plant) : p.OnlyReleases (p.releaseTree k c) := by
  induction k generalizing c p with
  | zero => exact .refl p
  | succ k ih =>
    by_cases hc : (p.ch c).active = true
    · obtain ⟨q, hq, e⟩ := exists_retired (fun q d => ih d q) hc
      exact e ▸ interrupted hc hq
    · rw [Plant.releaseTree_succ, if_neg hc]
      exact .refl p

end Plant.OnlyReleases

/-- A release leaves its channel out of service. -/
theorem Plant.active_releaseTree (k c : Nat) (p : Plant) : ((p.releaseTree (k + 1) c).ch c).active = false := by
  by_cases hc : (p.ch c).active = true
  · obtain ⟨q, hq, e⟩ := Plant.OnlyReleases.exists_retired (fun q d => Plant.OnlyReleases.releaseTree k d q) hc
    rw [e, (q.interrupt_spec .release c).1 c, if_pos rfl, hq.ch_retired hc]
    exact Channel.active_released (p.ch c)
  · rw [Plant.releaseTree_succ, if_neg hc]
    exact Bool.eq_false_iff.2 hc

/-! ## Releases where no request stands -/

/-- No channel is drawn, requests or waits. -/
def Plant.Unasked (p : Plant) : Prop :=
  ∀ c, (p.ch c).drawn = false ∧ (p.ch c).combined = false ∧ (p.ch c).state ≠ .waiting

section
variable {mode : PartMode} (hm : ¬ (mode = .run ∨ mode = .fallback))
include hm

/-- A forming in a mode that forbids requests (R32, R40): every request false, and WAITING channels to IDLE. -/
theorem Plant.ch_formRequests_of_forbidden (p : Plant) (c : Nat) :
    (p.formRequests mode).ch c =
      { p.ch c with
        drawn := false, combined := false, state := if (p.ch c).state = .waiting then .idle else (p.ch c).state } := by
  obtain ⟨hdrawn, hcombined⟩ := (Plant.formed_iff_of_forbidden hm).1 (Plant.formed_formRequests mode p) c
  by_cases hc : c < 32
  · unfold Plant.formRequests at hdrawn hcombined ⊢
    simp only [Plant.ch_mapCh _ _ hc] at hdrawn hcombined ⊢
    rw [hdrawn, hcombined]
    cases (p.ch c).state <;> rfl
  · have hout : ∀ q : Plant, q.ch c = {} := fun q => Table.get_of_le _ _ (by omega)
    rw [hout, hout]
    rfl

theorem Plant.unasked_formRequests (p : Plant) : (p.formRequests mode).Unasked := by
  intro c
  rw [Plant.ch_formRequests_of_forbidden hm]
  refine ⟨rfl, rfl, ?_⟩
  simp only
  split
  · exact ChannelState.noConfusion
  · assumption

/-- Where nothing requests or waits, a forming changes nothing. -/
theorem Plant.Unasked.formRequests {p : Plant} (h : p.Unasked) : p.OnlyReleases (p.formRequests mode) := by
  refine .of_same (fun c => ?_) rfl rfl
  obtain ⟨hdrawn, hcombined, hstate⟩ := h c
  calc (p.formRequests mode).ch c = { p.ch c with drawn := false, combined := false } := by
        rw [Plant.ch_formRequests_of_forbidden hm, if_neg hstate]
    _ = { p.ch c with drawn := (p.ch c).drawn, combined := (p.ch c).combined } := by rw [hdrawn, hcombined]

omit hm in
/-- Releases give rise to no request. -/
theorem Plant.Unasked.keeps {p q : Plant} (h : p.Unasked) (hq : p.OnlyReleases q) : q.Unasked := by
  intro c
  obtain ⟨hdrawn, hcombined, hstate⟩ := h c
  rcases hq.ch c with e | ⟨-, e⟩
  · rw [e]; exact ⟨hdrawn, hcombined, hstate⟩
  · have hsame := Channel.sameRequests_released (p.ch c)
    rw [e]
    exact ⟨hsame.drawn.trans hdrawn, hsame.combined.trans hcombined, Channel.state_released_ne_waiting hcombined⟩

/-- A forming with the channels' answers is releases alone (R32, R43). -/
theorem Plant.Unasked.reform {p : Plant} (h : p.Unasked) : p.OnlyReleases (p.reform mode) := by
  unfold Plant.reform
  generalize 33 = k
  induction k generalizing p with
  | zero => exact h.formRequests hm
  | succ k ih =>
    have hformed := h.formRequests hm
    simp only [Plant.reformLoop]
    split
    · exact hformed
    · next c cs _ =>
      have hreleased := hformed.trans
        (Plant.OnlyReleases.foldl (fun q d => Plant.OnlyReleases.releaseTree 33 d q) (c :: cs) _)
      exact hreleased.trans (ih (h.keeps hreleased))

/-- A release and the forming that follows it are releases alone (R44, R52, R159). -/
theorem Plant.Unasked.release {p : Plant} (h : p.Unasked) (c : Nat) :
    p.OnlyReleases (p.release mode c) ∧ ((p.release mode c).ch c).active = false := by
  have htree := Plant.OnlyReleases.releaseTree 33 c p
  have hout := Plant.active_releaseTree 32 c p
  unfold Plant.release Plant.reformAfter
  split
  · exact ⟨htree, hout⟩
  · have hreform := (h.keeps htree).reform hm
    exact ⟨htree.trans hreform, (congrArg _ (hreform.ch_of_inactive hout)).trans hout⟩

/-- Releases in the order given are releases alone, and leave every channel named out of service. -/
theorem Plant.Unasked.releaseEach {p : Plant} (h : p.Unasked) (cs : List Nat) :
    p.OnlyReleases (p.releaseEach mode cs) ∧ ∀ c ∈ cs, ((p.releaseEach mode cs).ch c).active = false := by
  induction cs generalizing p with
  | nil => exact ⟨.refl p, by simp⟩
  | cons d ds ih =>
    obtain ⟨hone, hout⟩ := h.release hm d
    obtain ⟨hrest, hall⟩ := ih (h.keeps hone)
    refine ⟨hone.trans hrest, fun c hc => ?_⟩
    rcases List.mem_cons.1 hc with rfl | hc
    · exact (congrArg _ (hrest.ch_of_inactive hout)).trans hout
    · exact hall c hc

end

end Sys2Proof.Machine
end

section
/-! SUPPORT. STOP (R172 to R174): a new zone table and the changes reported with it, the channels at the entry to WIND-DOWN, and the
part at that entry and at the wind-down's end. -/

namespace Sys2Proof

/-- A table put through a constant. -/
theorem Table.map_const {α β : Type} {n : Nat} (t : Table α n) (b : β) : t.map (fun _ => b) = Table.fill n b := by
  apply Table.ext_rows
  rw [Table.rows_map, List.map_const', t.size, Table.rows_fill]

end Sys2Proof

namespace Sys2Proof.Machine

/-! ## A new zone table -/

/-- A new zone table reaches the zones and, by the changes reported, the station line alone (R7). -/
theorem State.mapZones_eq (s : State) (f : Nat → Zone → Zone) :
    ∃ g, s.mapZones f = (s.updZones (fun t => t.mapIdx (fun k z => f (k + 1) z))).updLine g := by
  refine foldl_keeps
    (P := fun t : State => ∃ g, t = (s.updZones (fun t => t.mapIdx (fun k z => f (k + 1) z))).updLine g)
    (f := State.reportChange) _ (fun t z _ ht => ?_) _ ⟨id, rfl⟩
  obtain ⟨g, rfl⟩ := ht
  exact ⟨fun l => (((s.updZones (fun t => t.mapIdx (fun k z => f (k + 1) z))).updLine g).reportChange z).line, rfl⟩

section
variable (s : State) (f : Nat → Zone → Zone)

@[simp] theorem State.mapZones_phase : (s.mapZones f).phase = s.phase := by obtain ⟨g, h⟩ := s.mapZones_eq f; rw [h]; rfl
@[simp] theorem State.mapZones_settings : (s.mapZones f).settings = s.settings := by
  obtain ⟨g, h⟩ := s.mapZones_eq f; rw [h]; rfl
@[simp] theorem State.mapZones_doors : (s.mapZones f).doors = s.doors := by obtain ⟨g, h⟩ := s.mapZones_eq f; rw [h]; rfl
@[simp] theorem State.mapZones_chan : (s.mapZones f).chan = s.chan := by obtain ⟨g, h⟩ := s.mapZones_eq f; rw [h]; rfl
@[simp] theorem State.mapZones_alloc : (s.mapZones f).alloc = s.alloc := by obtain ⟨g, h⟩ := s.mapZones_eq f; rw [h]; rfl
@[simp] theorem State.mapZones_sel : (s.mapZones f).sel = s.sel := by obtain ⟨g, h⟩ := s.mapZones_eq f; rw [h]; rfl
@[simp] theorem State.mapZones_link : (s.mapZones f).link = s.link := by obtain ⟨g, h⟩ := s.mapZones_eq f; rw [h]; rfl
@[simp] theorem State.mapZones_store : (s.mapZones f).store = s.store := by obtain ⟨g, h⟩ := s.mapZones_eq f; rw [h]; rfl

end

/-- Zone `n` of a new table, whose function leaves an undefined zone undefined. -/
theorem State.zone_mapZones (s : State) {f : Zone → Zone} (hf : f {} = {}) (n : Nat) :
    (s.mapZones (fun _ => f)).zone n = f (s.zone n) := by
  obtain ⟨g, h⟩ := s.mapZones_eq (fun _ => f)
  rw [h]
  cases n with
  | zero => exact hf.symm
  | succ k =>
    by_cases hk : k < 12
    · exact Table.get_mapIdx _ _ _ _ hk
    · have hout : ∀ t : Table Zone 12, t.get {} k = {} := fun t => Table.get_of_le _ _ (by omega)
      exact (hout _).trans (hf.symm.trans (congrArg f (hout _).symm))

/-- Where no zone's effective values change, no change is reported. -/
theorem changedZones_mapFrom_eq_nil {f : Nat → Zone → Zone} (hf : ∀ k z, effectiveDiffers z (f k z) = false) (j k : Nat)
    (l : List Zone) : changedZones j l (mapFrom f k l) = [] := by
  induction l generalizing j k with
  | nil => rfl
  | cons z zs ih => simp only [mapFrom, changedZones, hf, Bool.and_false, Bool.false_eq_true, if_false, ih]

theorem State.mapZones_of_unchanged (s : State) {f : Nat → Zone → Zone} (hf : ∀ k z, effectiveDiffers z (f k z) = false) :
    s.mapZones f = s.updZones (fun t => t.mapIdx (fun k z => f (k + 1) z)) := by
  simp only [State.mapZones, Table.rows_mapIdx, changedZones_mapFrom_eq_nil (f := fun k z => f (k + 1) z) (fun k z => hf (k + 1) z)]
  rfl

theorem zoneAtWindDown_keeps_effective (z : Zone) : effectiveDiffers z (zoneAtWindDown z) = false := by
  unfold zoneAtWindDown effectiveDiffers
  split <;> simp

/-! ## The channels at the entry to WIND-DOWN -/

/-- A channel whose requests have ended (R32, R40, R115). -/
def Channel.unasked (x : Channel) : Channel :=
  { x with
    prompt := false, drawn := false, combined := false, state := if x.state = .waiting then .idle else x.state }

theorem Channel.active_unasked (x : Channel) : x.unasked.active = x.active := by
  unfold Channel.unasked Channel.active
  cases x.state <;> rfl

theorem Plant.ch_endPrompts (p : Plant) (c : Nat) : p.endPrompts.ch c = { p.ch c with prompt := false } := by
  by_cases hc : c < 32
  · exact Plant.ch_mapCh _ _ hc
  · have hout : ∀ q : Plant, q.ch c = {} := fun q => Table.get_of_le _ _ (by omega)
    rw [hout, hout]

/-- The channel tables with every request ended, before any release. -/
def Plant.unasked (p : Plant) : Plant := p.endPrompts.formRequests .windDown

theorem Plant.ch_unasked (p : Plant) (c : Nat) : p.unasked.ch c = (p.ch c).unasked := by
  unfold Plant.unasked
  rw [Plant.ch_formRequests_of_forbidden (by decide), Plant.ch_endPrompts]
  rfl

theorem Plant.active_unasked (p : Plant) (c : Nat) : (p.unasked.ch c).active = (p.ch c).active := by
  rw [Plant.ch_unasked, Channel.active_unasked]

/-- The entry to WIND-DOWN ends every request and then releases every channel in service, and does nothing else (R55, R115). -/
theorem Plant.atWindDown_spec (p : Plant) :
    p.unasked.OnlyReleases p.atWindDown ∧ ∀ c, (p.atWindDown.ch c).active = false := by
  have hunasked : p.unasked.Unasked := Plant.unasked_formRequests (by decide) _
  obtain ⟨honly, hout⟩ := hunasked.releaseEach (mode := .windDown) (by decide) (p.unasked.chan.channels.indices Channel.active)
  refine ⟨honly, fun c => Bool.eq_false_iff.2 fun hc => ?_⟩
  have hbefore : (p.unasked.ch c).active = true := honly.ch_of_active hc ▸ hc
  have hlt : c < 32 := Plant.lt_of_defined (Channel.defined_of_active hbefore)
  have hmem : c ∈ p.unasked.chan.channels.indices Channel.active := (Table.mem_indices _ _ ({} : Channel) _).2 ⟨hlt, hbefore⟩
  exact Bool.false_ne_true ((hout c hmem).symm.trans hc)

theorem Plant.ch_atWindDown (p : Plant) (c : Nat) :
    p.atWindDown.ch c =
      if (p.ch c).active = true then { (p.ch c).unasked.released with exercise := false } else (p.ch c).unasked := by
  obtain ⟨honly, hout⟩ := p.atWindDown_spec
  rw [← Plant.ch_unasked, ← Plant.active_unasked]
  split
  · next hc =>
    refine ((honly.ch c).resolve_left fun e => ?_).2
    exact Bool.false_ne_true ((hout c).symm.trans (e ▸ hc))
  · next hc => exact honly.ch_of_inactive (Bool.eq_false_iff.2 hc)

/-- With every channel of the grant order list in service, the list is empty afterwards. -/
theorem Plant.order_atWindDown (p : Plant) (h : ∀ c ∈ p.chan.grantOrder, (p.ch c).active = true) :
    p.atWindDown.chan.grantOrder = [] := by
  obtain ⟨honly, hout⟩ := p.atWindDown_spec
  refine List.eq_nil_iff_forall_not_mem.2 fun c hc => ?_
  obtain ⟨hmem, hsame⟩ := honly.order c hc
  have hactive : (p.unasked.ch c).active = true := (p.active_unasked c).trans (h c hmem)
  exact Bool.false_ne_true ((hout c).symm.trans (hsame ▸ hactive))

/-- With no exercise asked of a channel in service, the entry produces no notice (R162). -/
theorem Plant.produced_atWindDown (p : Plant) (h : ∀ c, (p.ch c).active = true → (p.ch c).exercise = false) :
    p.atWindDown.produced = p.produced := by
  refine p.atWindDown_spec.1.produced fun c hc => ?_
  rw [Plant.ch_unasked]
  exact h c (p.active_unasked c ▸ hc)

/-! ## The entry to WIND-DOWN -/

/-- The part at the entry to WIND-DOWN, block by block (R24, R55, R115, R173). -/
theorem State.windDownEntry_eq (s : State) :
    s.windDownEntry =
      { s with
        ctl := { s.ctl with mode := .windDown }
        zones := s.zones.mapIdx (fun _ z => zoneAtWindDown z)
        doors := s.doors.map (fun _ => {})
        chan := s.plant.atWindDown.chan
        alloc := { s.alloc with
          slotTimer := none, stalenessTimer := none, prompts := s.alloc.prompts.map (fun e => { e with runOnTimer := none }) }
        link := { s.link.queueNotices s.plant.atWindDown.produced with silenceTimer := none } } := by
  unfold State.windDownEntry
  rw [State.mapZones_of_unchanged _ fun _ => zoneAtWindDown_keeps_effective]
  generalize Plant.atWindDown = f
  rfl

theorem State.channel_windDownEntry (s : State) (c : Nat) :
    s.windDownEntry.channel c =
      if (s.channel c).active = true then { (s.channel c).unasked.released with exercise := false }
      else (s.channel c).unasked := by
  rw [State.windDownEntry_eq]
  exact s.plant.ch_atWindDown c

theorem State.zone_windDownEntry (s : State) (n : Nat) : s.windDownEntry.zone n = zoneAtWindDown (s.zone n) := by
  have e := State.zone_mapZones s (f := zoneAtWindDown) rfl n
  rw [State.mapZones_of_unchanged _ fun _ => zoneAtWindDown_keeps_effective] at e
  rw [State.windDownEntry_eq]
  exact e

/-! ## The part after a STOP in RUN -/

theorem State.plant_drawingCount (s : State) :
    s.plant.drawingCount = s.over (fun x => if x.defined = true ∧ x.state.drawing = true then 1 else 0) := by
  rw [← State.plant_sum]
  simp only [Plant.drawingCount, Bool.and_eq_true]

/-- The part after the entry to WIND-DOWN, and after the wind-down's end where no channel is left drawing (R172, R174). -/
def State.stopped (s : State) : State := s.windDownEntry.windDownCheck

theorem State.stopped_eq (s : State) :
    s.stopped = if s.windDownEntry.plant.drawingCount = 0 then s.windDownEntry.windDownEnd else s.windDownEntry := by
  have hmode : s.windDownEntry.mode = .windDown := by rw [State.windDownEntry_eq]; rfl
  unfold State.stopped State.windDownCheck
  rw [hmode]

/-- What the end of a wind-down leaves alone is after a STOP as the entry to WIND-DOWN left it. -/
theorem State.stopped_frame {α : Type} (F : State → α) (hF : ∀ e : State, F e.windDownEnd = F e) (s : State) :
    F s.stopped = F s.windDownEntry := by
  rw [State.stopped_eq]
  split
  · exact hF _
  · rfl

theorem State.windDownEnd_link (e : State) :
    e.windDownEnd.link =
      e.link.queueNotice (.windDownDone (e.plant.countIn .lockout) (e.plant.countIn .faulted) (e.plant.countIn .latched)) := by
  simp only [State.windDownEnd, State.notify_link, State.mapZones_link, State.updCtl_link]

section
variable (s : State)

@[simp] theorem State.stopped_phase : s.stopped.phase = s.phase := by
  rw [State.stopped_frame State.phase fun e => State.mapZones_phase _ _, State.windDownEntry_eq]

@[simp] theorem State.stopped_settings : s.stopped.settings = s.settings := by
  rw [State.stopped_frame State.settings fun e => State.mapZones_settings _ _, State.windDownEntry_eq]

@[simp] theorem State.stopped_sel : s.stopped.sel = s.sel := by
  rw [State.stopped_frame State.sel fun e => State.mapZones_sel _ _, State.windDownEntry_eq]

@[simp] theorem State.stopped_store : s.stopped.store = s.store := by
  rw [State.stopped_frame State.store fun e => State.mapZones_store _ _, State.windDownEntry_eq]

@[simp] theorem State.stopped_doors : s.stopped.doors = Table.fill 4 {} := by
  rw [State.stopped_frame State.doors fun e => State.mapZones_doors _ _, State.windDownEntry_eq]
  exact Table.map_const _ _

@[simp] theorem State.stopped_alloc :
    s.stopped.alloc = { s.alloc with
      slotTimer := none, stalenessTimer := none, prompts := s.alloc.prompts.map (fun e => { e with runOnTimer := none }) } := by
  rw [State.stopped_frame State.alloc fun e => State.mapZones_alloc _ _, State.windDownEntry_eq]

@[simp] theorem State.stopped_chan : s.stopped.chan = s.windDownEntry.chan :=
  State.stopped_frame State.chan (fun _ => State.mapZones_chan _ _) s

theorem State.windDownEntry_chan : s.windDownEntry.chan = s.plant.atWindDown.chan := by rw [State.windDownEntry_eq]

/-- The link port keeps its request queue and its transmitter, and its silence timer is stopped (R173). -/
theorem State.stopped_link :
    s.stopped.link.requests = s.link.requests ∧ s.stopped.link.tx = s.link.tx ∧ s.stopped.link.silenceTimer = none := by
  have hentry : s.windDownEntry.link.requests = s.link.requests ∧ s.windDownEntry.link.tx = s.link.tx ∧
      s.windDownEntry.link.silenceTimer = none := by
    rw [State.windDownEntry_eq]
    exact ⟨LinkPort.queueNotices_requests _ _, LinkPort.queueNotices_tx _ _, rfl⟩
  have hend (e : State) : e.windDownEnd.link.requests = e.link.requests ∧ e.windDownEnd.link.tx = e.link.tx ∧
      e.windDownEnd.link.silenceTimer = e.link.silenceTimer := by
    rw [State.windDownEnd_link]
    unfold LinkPort.queueNotice
    split <;> exact ⟨rfl, rfl, rfl⟩
  rw [State.stopped_frame (·.link.requests) fun e => (hend e).1, State.stopped_frame (·.link.tx) fun e => (hend e).2.1,
    State.stopped_frame (·.link.silenceTimer) fun e => (hend e).2.2]
  exact hentry

theorem State.stopped_ctl :
    s.stopped.ctl =
      { s.ctl with mode := if s.windDownEntry.plant.drawingCount = 0 then .standby else .windDown } := by
  have hentry : s.windDownEntry.ctl = { s.ctl with mode := .windDown } := by rw [State.windDownEntry_eq]
  rw [State.stopped_eq]
  split
  · simp only [State.windDownEnd, State.notify_ctl, State.mapZones_ctl, State.updCtl_ctl, hentry]
  · exact hentry

/-- The zones are cleared (R24), and at the wind-down's end their effective values formed from the commanded ones. -/
theorem State.zone_stopped (k : Nat) :
    s.stopped.zone k =
      if s.windDownEntry.plant.drawingCount = 0 then zoneAtStandby (zoneAtWindDown (s.zone k))
      else zoneAtWindDown (s.zone k) := by
  rw [State.stopped_eq]
  split
  · rw [← State.zone_windDownEntry]
    exact State.zone_mapZones (s.windDownEntry.updCtl _) rfl k
  · exact s.zone_windDownEntry k

/-- Until a wind-down's end the station line hears of nothing. -/
theorem State.stopped_line (h : s.windDownEntry.plant.drawingCount ≠ 0) : s.stopped.line = s.line := by
  rw [State.stopped_eq, if_neg h, State.windDownEntry_eq]

/-- With no exercise asked of a channel in service, WIND-DOWN-DONE is the one notice a STOP can give (R162, R174). -/
theorem State.stopped_notices (hno : ∀ c, (s.channel c).active = true → (s.channel c).exercise = false)
    (hroom : s.link.notices.length < 16) :
    s.stopped.link.notices = s.link.notices ++
      (if s.windDownEntry.plant.drawingCount = 0 then
        [.windDownDone (s.windDownEntry.plant.countIn .lockout) (s.windDownEntry.plant.countIn .faulted)
          (s.windDownEntry.plant.countIn .latched)]
       else []) := by
  have hquiet : s.plant.atWindDown.produced = [] := s.plant.produced_atWindDown hno
  have hentry : s.windDownEntry.link.notices = s.link.notices := by
    rw [State.windDownEntry_eq, hquiet]
    rfl
  rw [State.stopped_eq]
  split
  · rw [State.windDownEnd_link, (LinkPort.queueNotice_spec _ _).1 (hentry ▸ hroom), ← hentry]
  · rw [hentry, List.append_nil]

end

/-- A zone after a STOP (R24): cleared, and in STANDBY with its effective values formed from the commanded ones. -/
theorem zone_after_stop (n : Nat) (z : Zone) :
    (if n = 0 then zoneAtStandby (zoneAtWindDown z) else zoneAtWindDown z) =
      if z.defined = true then
        { z with
          integral := 0, demand := 0, hold := .normal, holdTimer := none
          effectiveSetpoint := if n = 0 then z.commandedSetpoint else z.effectiveSetpoint
          effectiveMode := if n = 0 then z.commandedMode else z.effectiveMode }
      else z := by
  unfold zoneAtStandby zoneAtWindDown
  by_cases hz : z.defined = true
  · by_cases hn : n = 0 <;> simp only [hz, hn, if_true, if_false]
  · simp only [hz, Bool.false_eq_true, if_false, ite_self]

/-- A channel after a STOP (R44, R55, R115). -/
theorem channel_after_stop (y : Channel) :
    (if y.active = true then { y.unasked.released with exercise := false } else y.unasked) =
      let x := { y with combined := false, drawn := false, prompt := false }
      if x.active = true then { x.afterRelease with exercise := false }
      else if x.state = .waiting then { x with state := .idle }
      else x := by
  have hactive : ({ y with combined := false, drawn := false, prompt := false } : Channel).active = y.active := rfl
  simp only [hactive]
  by_cases hw : y.state = .waiting
  · have hout : y.active = false := by simp only [Channel.active, hw, ChannelState.inService, Bool.and_false]
    simp only [Channel.unasked, hout, hw, Bool.false_eq_true, if_false, if_true]
  · have hsame : y.unasked = { y with combined := false, drawn := false, prompt := false } := by
      simp only [Channel.unasked, if_neg hw]
    rw [hsame, Channel.released_eq_afterRelease, if_neg hw]

/-! ## The taking of a STOP -/

/-- A return from FALLBACK leaves the channel controller (R179). -/
@[simp] theorem State.chan_atTaking (s : State) : s.atTaking.chan = s.chan := by
  unfold State.atTaking State.backInRun
  split <;> rfl

/-- STOP is taken at once, in every mode. -/
theorem exec_stop {s : State} (h : s.Ready) (tag : Nat) :
    exec (.stop tag) s = .next (takeStop tag (s.atTaking.heading (.stop tag))).pump :=
  congrArg _ (State.submit_ready h _ _)

/-- Outside RUN a STOP taken is answered and changes nothing (R172). -/
theorem takeStop_of_ne_run {t : State} (hrun : t.ctl.mode ≠ .run) (hfallback : t.ctl.mode ≠ .fallback) (tag : Nat) :
    takeStop tag t = t.done 0x19 tag := by
  unfold takeStop State.mode
  split
  · next h => exact absurd h hrun
  · rfl
  · rfl
  · next h => exact absurd h hfallback

theorem takeStop_of_run {t : State} (h : t.ctl.mode = .run) (tag : Nat) :
    takeStop tag t = t.stopped.reply 0x19 tag .accepted (.stopping t.windDownEntry.plant.drawingCount) := by
  have hmode : t.mode = .run := h
  simp only [takeStop, hmode]
  rfl

/-- A reply that is ready goes before every waiting notice (R186). -/
theorem LinkPort.pump_notices_of_ready {l : LinkPort} {r : Reply} (h : l.ready = some r) : l.pump.notices = l.notices := by
  unfold LinkPort.pump
  rw [h]
  split <;> rfl

/-- Settles O35: outside RUN the reply alone follows; in RUN the part is wound down before it, every block as the lemmas on
`State.stopped` say, and the channels as `State.channel_windDownEntry` says. -/
theorem stopWindsDown : Obligations.StopWindsDown := by
  unfold Obligations.StopWindsDown
  intro tag s h i t
  have hexec : exec i s = .next (takeStop tag (t.heading i)).pump := exec_stop h tag
  refine ⟨fun hmode => ?other, fun hmode => ?run⟩
  case other =>
    rw [hexec, takeStop_of_ne_run (t := t.heading i) hmode (State.mode_atTaking s)]
    exact congrArg _ (State.heading_reply t i rfl rfl .done .nothing)
  case run =>
    rw [hexec, takeStop_of_run (t := t.heading i) hmode]
    have hphase : (t.heading i).stopped.phase = .operating :=
      (State.stopped_phase _).trans ((State.phase_atTaking s).trans h.phase)
    obtain ⟨hrequests, htx, hsilence⟩ := (t.heading i).stopped_link
    generalize hn : (t.heading i).windDownEntry.plant.drawingCount = n
    have hanswers : Answers t ((t.heading i).stopped.reply 0x19 tag .accepted (.stopping n)).pump i .accepted (.stopping n) :=
      State.answers_reply rfl rfl hphase hrequests htx _ _
    have hlink := State.pump_link (s := (t.heading i).stopped.reply 0x19 tag .accepted (.stopping n)) hphase
    have hchan : ((t.heading i).stopped.reply 0x19 tag .accepted (.stopping n)).pump.chan = (t.heading i).windDownEntry.chan := by
      rw [State.pump_chan, State.reply_chan, State.stopped_chan]
    generalize hu : ((t.heading i).stopped.reply 0x19 tag .accepted (.stopping n)).pump = u at hanswers hlink hchan
    have hchannel : ∀ c, u.channel c = (t.heading i).windDownEntry.channel c := fun c =>
      congrArg (fun x : ChannelCtl => x.channels.get {} c) hchan
    have hover : ∀ f, u.over f = (t.heading i).windDownEntry.over f := fun f => by simp only [State.over, hchannel]
    have hzone : ∀ k, u.zone k = (t.heading i).stopped.zone k := fun k => by rw [← hu, State.zone, State.pump_zones]; rfl
    refine ⟨u, n, rfl, hanswers, ?count, ?ctl, ?settings, ?sel, ?store, ?silence, fun k => ?zone, ?doors, ?alloc,
      fun hleft => ?line, fun horder => ?order, fun c hdef => ?channel, fun hno hroom => ?notices⟩
    case count => rw [hover, ← State.plant_drawingCount, hn]
    case ctl => rw [← hu, State.pump_ctl, State.reply_ctl, State.stopped_ctl, hn]; rfl
    case settings => rw [← hu, State.pump_settings, State.reply_settings, State.stopped_settings]; rfl
    case sel => rw [← hu, State.pump_sel, State.reply_sel, State.stopped_sel]; rfl
    case store => rw [← hu, State.pump_store, State.reply_store, State.stopped_store]; rfl
    case silence =>
      obtain ⟨-, -, -, -, hkept, -⟩ :=
        LinkPort.pump_spec ((t.heading i).stopped.reply 0x19 tag .accepted (.stopping n)).link
      rw [hlink, hkept]
      exact hsilence
    case zone =>
      rw [hzone, State.zone_stopped, hn]
      exact zone_after_stop _ _
    case doors => rw [← hu, State.pump_doors, State.reply_doors, State.stopped_doors]
    case alloc => rw [← hu, State.pump_alloc, State.reply_alloc, State.stopped_alloc]; rfl
    case line =>
      rw [← hu, State.pump_line, State.reply_line, State.stopped_line _ (hn ▸ hleft)]
      rfl
    case order =>
      have hlisted : ∀ c ∈ t.chan.grantOrder, (t.channel c).active = true := by
        unfold State.channel
        rw [State.chan_atTaking]
        exact fun c => (horder.2 c).1
      rw [hchan, State.windDownEntry_chan]
      exact t.plant.order_atWindDown hlisted
    case channel =>
      rw [hchannel, State.channel_windDownEntry]
      exact channel_after_stop _
    case notices =>
      rw [hlink, LinkPort.pump_notices_of_ready (r := ⟨0x19, tag, .accepted, .stopping n⟩) rfl]
      simp only [hover, ← State.plant_countIn]
      rw [← hn]
      exact (t.heading i).stopped_notices hno hroom

end Sys2Proof.Machine
end
